-- ==== Sys2Proof/Word.lean ====
section
/-! DEFINITION. The word types of the block: bytes, 16-bit fields, 32-bit command words (spec 00 R8, 30 R88). -/

namespace Sys2Proof

/-- One byte: a data byte of the bus, of `HMEM`, or of a descriptor's `ADDR` (R62). -/
abbrev Byte := BitVec 8

/-- A 16-bit field: `REM`, `CUR`, `CONT`, `RV`, a byte address of `HMEM` (R8: `REM_WIDTH`, `PTR_WIDTH`). -/
abbrev Half := BitVec 16

/-- A 32-bit command word (R88, R94). -/
abbrev Word := BitVec 32

/-- A descriptor reference other than NULL: R8 bounds `N_DESC` by 15, and `0xF` encodes NULL (R90). -/
abbrev DescRef := Fin 15

end Sys2Proof
end

