-- ==== Sys2Proof/Config.lean ====
section
/-! DEFINITION. The parameters of spec 00 R8 (fixed for one machine, held in `State.cfg`, changed by no step), and the
free values, which nothing in Lean can evaluate. -/

namespace Sys2Proof

/-- The two readings of `ADDR_RW_ON_WIRE` (R8, D10, conflict C4). -/
inductive WireRw where
  /-- bit 0 of the transmitted address byte is `ADDR[0]` (the default) -/
  | direction
  /-- bit 0 of the transmitted address byte is 0 -/
  | zero
  deriving DecidableEq, Repr

/-- The numbers from `lo` to `hi`, both included. -/
structure Range where
  lo : Nat
  hi : Nat
  deriving DecidableEq, Repr

/-- The OPEN and decided parameters of R8 that a host may choose. `BUS_COMPLETES` is a premise on a run and no parameter of a
step: `State.BusCompletes` of Safety (log entry 19). -/
structure Config where
  /-- `N_DESC`, the number of descriptor slots (R8, D35) -/
  nDesc : Nat
  /-- the addresses for which the host predicate `admits` holds (R8, R64), as a union of ranges -/
  admitted : List Range
  /-- the host's set `ContId` of continuation identifiers (R8, R181), as a union of ranges; 0 is never one -/
  contIds : List Range
  /-- `ADDR_RW_ON_WIRE` (R8, R127) -/
  addrRwOnWire : WireRw
  /-- `IDLE_CHECK_ATOMIC` (R8, R178) -/
  idleCheckAtomic : Bool
  deriving DecidableEq, Repr

/-- R8: `1 <= N_DESC <= 15`. -/
def Config.wf (cfg : Config) : Bool := decide (1 ≤ cfg.nDesc) && decide (cfg.nDesc ≤ 15)

/-- R8's defaults: one descriptor ("the source system has 1"), every `ContId` of 1..0xFFFF, `Direction`, `false`.
R8 gives `admits` no default: DESIGN CHOICE (log entry 3), every address of `HMEM` is admitted. -/
def Config.default : Config :=
  { nDesc := 1
    admitted := [⟨0, 0xFFFF⟩]
    contIds := [⟨1, 0xFFFF⟩]
    addrRwOnWire := .direction
    idleCheckAtomic := false }

/-- `SIG_PEND_RESET`, the reset value of the completion-pending flag (R8, R37, D15). -/
def Config.sigPendReset : Bool := true

/-- What a byte of `HMEM` that the list of cells does not hold reads as. R47 and R216 leave the launch contents to the
host: DESIGN CHOICE (log entry 4), 0. -/
def Config.launchByte : Byte := 0

/-- The `n`-th answer of the slave oracle when the environment has named none (R9, R113, R115: a draw under no law).
It has no body that Lean can evaluate, so nothing can be proved of its value (log entry 6). -/
opaque Config.freeByte : Nat → Byte

end Sys2Proof
end

