-- ==== Sys2Proof/Syntax.lean ====
section
/-! DEFINITION. The enumerations of spec 30 §1 and the operations of the opcode table (R91), one constructor a row. -/

namespace Sys2Proof

/-- The direction of a transfer: `W` = 0 and `R` = 1 (R14, R81). -/
inductive Dir where
  | w
  | r
  deriving DecidableEq, Repr

/-- The transaction kinds in their order of code (R25, R83). -/
inductive Kind where
  | idle
  | sendThenStop
  | receiveThenStop
  | sendThenSuspend
  | receiveThenSuspend
  | sendThenRestart
  | receiveThenRestart
  /-- code 7 -/
  | reserved
  deriving DecidableEq, Repr

/-- The protocol states in their order of code (R33, R84). -/
inductive PState where
  | start
  | addrAckPrep
  | addrAckCheck
  | sendByte
  | dataAckPrep
  | dataAckCheck
  | receiveByte
  | receiveStore
  | rxAckSent
  | prepareStop
  | stop
  /-- the reserved code `11 + k` -/
  | reserved (k : Fin 5)
  deriving DecidableEq, Repr

/-- The agents a fault record names (R9, R196). `host` is the host environment of R179. -/
inductive Agent where
  | engine
  | shifter
  | foreground
  | host
  deriving DecidableEq, Repr

/-- The fields of a descriptor, in the order of the selector `F` (R22, R90). -/
inductive Field where
  | addr
  | rem
  | kind
  | cur
  | cont
  deriving DecidableEq, Repr

/-- The operations of R91. -/
inductive Instr where
  /-- ISSUE_START, OP 0x00 (R102) -/
  | issueStart
  /-- SEND_BYTE, OP 0x01 (R103) -/
  | sendByte (b : Byte)
  /-- RECEIVE_BYTE, OP 0x02 (R104) -/
  | receiveByte
  /-- READ_RECEIVED_BYTE, OP 0x03 (R105) -/
  | readReceivedByte
  /-- PREPARE_STOP_OR_RESTART, OP 0x04 and 0x05 (R106) -/
  | prepareStopOrRestart (isStop : Bool)
  /-- ISSUE_STOP, OP 0x06 (R107) -/
  | issueStop
  /-- PREPARE_ACK_PHASE, OP 0x07 (R108) -/
  | prepareAckPhase
  /-- READ_ACK_BIT, OP 0x08 (R109) -/
  | readAckBit
  /-- SEND_ACK_BIT, OP 0x0A and 0x0B (R110) -/
  | sendAckBit (isNack : Bool)
  /-- START, OP 0x10; `none` is the NULL reference (R151) -/
  | start (d : Option DescRef)
  /-- RESUME, OP 0x11 (R153) -/
  | resume
  /-- FORCE_STOP, OP 0x12 (R154) -/
  | forceStop
  /-- GET_ERROR, OP 0x13 (R155) -/
  | getError
  /-- IS_BUSY, OP 0x20 (R166) -/
  | isBusy
  /-- ACQUIRE, OP 0x21 (R167) -/
  | acquire
  /-- RELEASE, OP 0x22 (R168) -/
  | release
  /-- RAISE_EVENT, OP 0x23 (R169) -/
  | raiseEvent
  /-- CLEAR_EVENT, OP 0x24 (R170) -/
  | clearEvent
  /-- CHECK_EVENT, OP 0x25 (R171) -/
  | checkEvent
  /-- DESC_READ, OP 0x30 (R157) -/
  | descRead (d : DescRef) (f : Field)
  /-- DESC_WRITE, OP 0x31 (R158) -/
  | descWrite (d : DescRef) (f : Field) (v : Half)
  /-- MEM_READ, OP 0x32 (R159) -/
  | memRead (a : Half)
  /-- MEM_WRITE, OP 0x33 (R160) -/
  | memWrite (a : Half) (v : Byte)
  /-- STEP.START, OP 0x40 (R127) -/
  | stepStart
  /-- STEP.ADDR_ACK_PREP, OP 0x41 (R128) -/
  | stepAddrAckPrep
  /-- STEP.ADDR_ACK_CHECK, OP 0x42 (R129) -/
  | stepAddrAckCheck
  /-- STEP.SEND_BYTE, OP 0x43 (R133) -/
  | stepSendByte
  /-- STEP.DATA_ACK_PREP, OP 0x44 (R134) -/
  | stepDataAckPrep
  /-- STEP.DATA_ACK_CHECK, OP 0x45 (R135) -/
  | stepDataAckCheck
  /-- STEP.RECEIVE_BYTE, OP 0x46 (R136) -/
  | stepReceiveByte
  /-- STEP.RECEIVE_STORE, OP 0x47 (R137) -/
  | stepReceiveStore
  /-- STEP.RX_ACK_SENT, OP 0x48 (R138) -/
  | stepRxAckSent
  /-- STEP.PREPARE_STOP, OP 0x49 (R139) -/
  | stepPrepareStop
  /-- STEP.STOP, OP 0x4A (R141) -/
  | stepStop
  /-- SHIFT_COMPLETE, OP 0x50 (R112) -/
  | shiftComplete
  /-- SCHED_ITER, OP 0x60 (R176) -/
  | schedIter
  /-- LPM_WAIT, OP 0x61 (R178) -/
  | lpmWait
  /-- EXT_STIMULUS, OP 0x70 (R179) -/
  | extStimulus
  deriving DecidableEq, Repr

end Sys2Proof
end

