-- ==== Sys2Proof/WellFormed.lean ====
section
/-! DEFINITION. Which operations are well formed under a configuration: the operand checks of spec 30 R90 that the
types of `Instr` do not already make. -/

namespace Sys2Proof

/-- R90: `D >= N_DESC` names no descriptor slot. -/
def descExists (cfg : Config) (d : DescRef) : Bool := decide (d.val < cfg.nDesc)

/-- R8, R27: a continuation identifier is one of the host's `ContId`, and never 0. -/
def isContId (cfg : Config) (v : Half) : Bool :=
  decide (v ≠ 0) && cfg.contIds.any (fun r => decide (r.lo ≤ v.toNat) && decide (v.toNat ≤ r.hi))

/-- R90: the value check of each field. -/
def Field.admitsValue (cfg : Config) (f : Field) (v : Half) : Bool :=
  match f with
  | .addr => decide (v.toNat < 256)
  | .rem => true
  | .kind => decide (v.toNat < 7)
  | .cur => true
  | .cont => decide (v = 0) || isContId cfg v

/-- R90: the operand checks of an operation. -/
def Instr.wf (cfg : Config) (i : Instr) : Bool :=
  match i with
  | .start (some d) => descExists cfg d
  | .descRead d _ => descExists cfg d
  | .descWrite d f v => descExists cfg d && Field.admitsValue cfg f v
  | .start none => true
  | .issueStart => true
  | .sendByte _ => true
  | .receiveByte => true
  | .readReceivedByte => true
  | .prepareStopOrRestart _ => true
  | .issueStop => true
  | .prepareAckPhase => true
  | .readAckBit => true
  | .sendAckBit _ => true
  | .resume => true
  | .forceStop => true
  | .getError => true
  | .isBusy => true
  | .acquire => true
  | .release => true
  | .raiseEvent => true
  | .clearEvent => true
  | .checkEvent => true
  | .memRead _ => true
  | .memWrite _ _ => true
  | .stepStart => true
  | .stepAddrAckPrep => true
  | .stepAddrAckCheck => true
  | .stepSendByte => true
  | .stepDataAckPrep => true
  | .stepDataAckCheck => true
  | .stepReceiveByte => true
  | .stepReceiveStore => true
  | .stepRxAckSent => true
  | .stepPrepareStop => true
  | .stepStop => true
  | .shiftComplete => true
  | .schedIter => true
  | .lpmWait => true
  | .extStimulus => true

end Sys2Proof
end

