-- ==== Sys2Proof/Decode.lean ====
section
/-! DEFINITION. The codes of spec 30 §1, the command-word formats of §2 (R88 to R94), the decoder and the encoder. -/

namespace Sys2Proof

/-! ### Codes (R81, R83, R84, R90) -/

/-- R81: `W` = 0 and `R` = 1. -/
def Dir.bit (d : Dir) : Bool :=
  match d with
  | .w => false
  | .r => true

/-- R83: the 3-bit kind codes. -/
def Kind.code (k : Kind) : BitVec 3 :=
  match k with
  | .idle => 0
  | .sendThenStop => 1
  | .receiveThenStop => 2
  | .sendThenSuspend => 3
  | .receiveThenSuspend => 4
  | .sendThenRestart => 5
  | .receiveThenRestart => 6
  | .reserved => 7

/-- R83: the kind of a 3-bit code. -/
def Kind.ofCode (c : BitVec 3) : Kind :=
  match c.toNat with
  | 0 => .idle
  | 1 => .sendThenStop
  | 2 => .receiveThenStop
  | 3 => .sendThenSuspend
  | 4 => .receiveThenSuspend
  | 5 => .sendThenRestart
  | 6 => .receiveThenRestart
  | _ => .reserved

/-- R84: the 4-bit protocol state codes. -/
def PState.code (p : PState) : BitVec 4 :=
  match p with
  | .start => 0
  | .addrAckPrep => 1
  | .addrAckCheck => 2
  | .sendByte => 3
  | .dataAckPrep => 4
  | .dataAckCheck => 5
  | .receiveByte => 6
  | .receiveStore => 7
  | .rxAckSent => 8
  | .prepareStop => 9
  | .stop => 10
  | .reserved k => BitVec.ofNat 4 (11 + k.val)

/-- R90: `F` selects the field; values 5 to 15 select none. -/
def Field.ofSelector (f : BitVec 4) : Option Field :=
  match f.toNat with
  | 0 => some .addr
  | 1 => some .rem
  | 2 => some .kind
  | 3 => some .cur
  | 4 => some .cont
  | _ => none

/-- R90: the selector of a field. -/
def Field.selector (f : Field) : BitVec 4 :=
  match f with
  | .addr => 0
  | .rem => 1
  | .kind => 2
  | .cur => 3
  | .cont => 4

/-! ### The fields of a command word (R88, R89) -/

/-- `OP[31:24]` -/
def opField (w : Word) : Byte := w.extractLsb' 24 8
/-- `B[7:0]` -/
def bField (w : Word) : Byte := w.extractLsb' 0 8
/-- `D[23:20]` -/
def dField (w : Word) : BitVec 4 := w.extractLsb' 20 4
/-- `F[19:16]` -/
def fField (w : Word) : BitVec 4 := w.extractLsb' 16 4
/-- `V[15:0]` of format DFV, and `A[15:0]` of formats MA and MAV -/
def lowField (w : Word) : Half := w.extractLsb' 0 16
/-- `V[23:16]` of format MAV -/
def vByteField (w : Word) : Byte := w.extractLsb' 16 8

/-- R89: bits `[hi-1:0]` are zero. -/
def lowZero (hi : Nat) (w : Word) : Bool := decide (w.extractLsb' 0 hi = 0)

/-- Why the decoder refuses a command word (R92, R207). -/
inductive Reject where
  /-- the operation byte is not in R91 -/
  | unlistedOp (op : Byte)
  /-- a bit that must be zero is set -/
  | mbzSet
  /-- `D` names no descriptor slot, or is NULL outside START -/
  | badDescriptor (d : BitVec 4)
  /-- `F` selects no field -/
  | badField (f : BitVec 4)
  /-- `V` fails the check of its field -/
  | badValue (f : Field) (v : Half)
  deriving DecidableEq, Repr

/-- R90: `V` is checked against the selected field. -/
def valueFits (cfg : Config) (f : Field) (v : Half) : Bool :=
  match f with
  | .addr => decide (v.extractLsb' 8 8 = 0#8)
  | .rem => true
  | .kind => decide (v.extractLsb' 3 13 = 0#13) && decide (v.extractLsb' 0 3 ≠ 7#3)
  | .cur => true
  | .cont => decide (v = 0) || isContId cfg v

/-- R90: a descriptor operand that is not NULL. -/
def descOf (cfg : Config) (d : BitVec 4) : Except Reject DescRef :=
  if h : d.toNat < 15 then
    if d.toNat < cfg.nDesc then .ok ⟨d.toNat, h⟩ else .error (.badDescriptor d)
  else .error (.badDescriptor d)

/-- R90: a field operand. -/
def fieldOf (f : BitVec 4) : Except Reject Field :=
  match Field.ofSelector f with
  | some f => .ok f
  | none => .error (.badField f)

/-- Format N and format S: `[23:0]` MBZ (R89). -/
def formatN (w : Word) (i : Instr) : Except Reject Instr :=
  if lowZero 24 w then .ok i else .error .mbzSet

/-- Format B: `[23:8]` MBZ (R89). -/
def formatB (w : Word) (mk : Byte → Instr) : Except Reject Instr :=
  if w.extractLsb' 8 16 = 0#16 then .ok (mk (bField w)) else .error .mbzSet

/-- Format D: `[19:0]` MBZ, `D = 0xF` is NULL (R89, R90). -/
def formatD (cfg : Config) (w : Word) (mk : Option DescRef → Instr) : Except Reject Instr :=
  if lowZero 20 w then
    if dField w = 15#4 then .ok (mk none) else (descOf cfg (dField w)).map (fun d => mk (some d))
  else .error .mbzSet

/-- Format DF: `[15:0]` MBZ (R89). -/
def formatDF (cfg : Config) (w : Word) (mk : DescRef → Field → Instr) : Except Reject Instr :=
  if lowZero 16 w then do
    let d ← descOf cfg (dField w)
    let f ← fieldOf (fField w)
    .ok (mk d f)
  else .error .mbzSet

/-- Format DFV (R89, R90). -/
def formatDFV (cfg : Config) (w : Word) (mk : DescRef → Field → Half → Instr) : Except Reject Instr := do
  let d ← descOf cfg (dField w)
  let f ← fieldOf (fField w)
  if valueFits cfg f (lowField w) then .ok (mk d f (lowField w)) else .error (.badValue f (lowField w))

/-- Format MA: `[23:16]` MBZ (R89). -/
def formatMA (w : Word) (mk : Half → Instr) : Except Reject Instr :=
  if vByteField w = 0#8 then .ok (mk (lowField w)) else .error .mbzSet

/-- Format MAV (R89). -/
def formatMAV (w : Word) (mk : Half → Byte → Instr) : Except Reject Instr :=
  .ok (mk (lowField w) (vByteField w))

/-- R91, R92: the decoder, total on the 2^32 command words. -/
def decode (cfg : Config) (w : Word) : Except Reject Instr :=
  match (opField w).toNat with
  | 0x00 => formatN w .issueStart
  | 0x01 => formatB w .sendByte
  | 0x02 => formatN w .receiveByte
  | 0x03 => formatN w .readReceivedByte
  | 0x04 => formatN w (.prepareStopOrRestart false)
  | 0x05 => formatN w (.prepareStopOrRestart true)
  | 0x06 => formatN w .issueStop
  | 0x07 => formatN w .prepareAckPhase
  | 0x08 => formatN w .readAckBit
  | 0x0A => formatN w (.sendAckBit false)
  | 0x0B => formatN w (.sendAckBit true)
  | 0x10 => formatD cfg w .start
  | 0x11 => formatN w .resume
  | 0x12 => formatN w .forceStop
  | 0x13 => formatN w .getError
  | 0x20 => formatN w .isBusy
  | 0x21 => formatN w .acquire
  | 0x22 => formatN w .release
  | 0x23 => formatN w .raiseEvent
  | 0x24 => formatN w .clearEvent
  | 0x25 => formatN w .checkEvent
  | 0x30 => formatDF cfg w .descRead
  | 0x31 => formatDFV cfg w .descWrite
  | 0x32 => formatMA w .memRead
  | 0x33 => formatMAV w .memWrite
  | 0x40 => formatN w .stepStart
  | 0x41 => formatN w .stepAddrAckPrep
  | 0x42 => formatN w .stepAddrAckCheck
  | 0x43 => formatN w .stepSendByte
  | 0x44 => formatN w .stepDataAckPrep
  | 0x45 => formatN w .stepDataAckCheck
  | 0x46 => formatN w .stepReceiveByte
  | 0x47 => formatN w .stepReceiveStore
  | 0x48 => formatN w .stepRxAckSent
  | 0x49 => formatN w .stepPrepareStop
  | 0x4A => formatN w .stepStop
  | 0x50 => formatN w .shiftComplete
  | 0x60 => formatN w .schedIter
  | 0x61 => formatN w .lpmWait
  | 0x70 => formatN w .extStimulus
  | _ => .error (.unlistedOp (opField w))

/-! ### The encoder -/

/-- R88: the operation byte above 24 bits of operands. -/
def wordOf (op : Byte) (operands : BitVec 24) : Word := op ++ operands

/-- R90: a descriptor operand, `0xF` for NULL. -/
def descBits (d : Option DescRef) : BitVec 4 :=
  match d with
  | none => 15
  | some d => BitVec.ofNat 4 d.val

/-- R89, R91: the command word of an operation. -/
def encode (i : Instr) : Word :=
  match i with
  | .issueStart => wordOf 0x00 0
  | .sendByte b => wordOf 0x01 (0#16 ++ b)
  | .receiveByte => wordOf 0x02 0
  | .readReceivedByte => wordOf 0x03 0
  | .prepareStopOrRestart isStop => wordOf (0b0000010#7 ++ BitVec.ofBool isStop) 0
  | .issueStop => wordOf 0x06 0
  | .prepareAckPhase => wordOf 0x07 0
  | .readAckBit => wordOf 0x08 0
  | .sendAckBit isNack => wordOf (0b0000101#7 ++ BitVec.ofBool isNack) 0
  | .start d => wordOf 0x10 (descBits d ++ 0#20)
  | .resume => wordOf 0x11 0
  | .forceStop => wordOf 0x12 0
  | .getError => wordOf 0x13 0
  | .isBusy => wordOf 0x20 0
  | .acquire => wordOf 0x21 0
  | .release => wordOf 0x22 0
  | .raiseEvent => wordOf 0x23 0
  | .clearEvent => wordOf 0x24 0
  | .checkEvent => wordOf 0x25 0
  | .descRead d f => wordOf 0x30 (descBits (some d) ++ f.selector ++ 0#16)
  | .descWrite d f v => wordOf 0x31 (descBits (some d) ++ f.selector ++ v)
  | .memRead a => wordOf 0x32 (0#8 ++ a)
  | .memWrite a v => wordOf 0x33 (v ++ a)
  | .stepStart => wordOf 0x40 0
  | .stepAddrAckPrep => wordOf 0x41 0
  | .stepAddrAckCheck => wordOf 0x42 0
  | .stepSendByte => wordOf 0x43 0
  | .stepDataAckPrep => wordOf 0x44 0
  | .stepDataAckCheck => wordOf 0x45 0
  | .stepReceiveByte => wordOf 0x46 0
  | .stepReceiveStore => wordOf 0x47 0
  | .stepRxAckSent => wordOf 0x48 0
  | .stepPrepareStop => wordOf 0x49 0
  | .stepStop => wordOf 0x4A 0
  | .shiftComplete => wordOf 0x50 0
  | .schedIter => wordOf 0x60 0
  | .lpmWait => wordOf 0x61 0
  | .extStimulus => wordOf 0x70 0

/-! ### Who issues an operation (R91, R93) -/

/-- R93: the primitive words, `OP` 0x00 to 0x0B, which only engine acts issue. -/
def Instr.isPrimitive (i : Instr) : Bool :=
  match i with
  | .issueStart | .sendByte _ | .receiveByte | .readReceivedByte | .prepareStopOrRestart _ | .issueStop
  | .prepareAckPhase | .readAckBit | .sendAckBit _ => true
  | .start _ | .resume | .forceStop | .getError | .isBusy | .acquire | .release | .raiseEvent | .clearEvent
  | .checkEvent | .descRead _ _ | .descWrite _ _ _ | .memRead _ | .memWrite _ _ => false
  | .stepStart | .stepAddrAckPrep | .stepAddrAckCheck | .stepSendByte | .stepDataAckPrep | .stepDataAckCheck
  | .stepReceiveByte | .stepReceiveStore | .stepRxAckSent | .stepPrepareStop | .stepStop => false
  | .shiftComplete | .schedIter | .lpmWait | .extStimulus => false

/-- R91, column "issued by": an engine act's primitive is the engine's (R93), the scheduler's words are the
foreground's. -/
def Instr.issuer (i : Instr) : Agent :=
  match i with
  | .issueStart | .sendByte _ | .receiveByte | .readReceivedByte | .prepareStopOrRestart _ | .issueStop
  | .prepareAckPhase | .readAckBit | .sendAckBit _ => .engine
  | .start _ | .resume | .forceStop | .getError | .isBusy | .acquire | .release | .raiseEvent | .clearEvent
  | .checkEvent | .descRead _ _ | .descWrite _ _ _ | .memRead _ | .memWrite _ _ => .foreground
  | .stepStart | .stepAddrAckPrep | .stepAddrAckCheck | .stepSendByte | .stepDataAckPrep | .stepDataAckCheck
  | .stepReceiveByte | .stepReceiveStore | .stepRxAckSent | .stepPrepareStop | .stepStop => .engine
  | .shiftComplete => .shifter
  | .schedIter | .lpmWait => .foreground
  | .extStimulus => .host

/-- R93: a foreground program may issue neither a primitive nor an agent-step word. -/
def Instr.issuable (i : Instr) : Bool := decide (i.issuer = .foreground)

/-- R91: `OP = 0x40 | PSTATE` names the engine step of a protocol state. -/
def stepWord (p : PState) : Word := wordOf (0x4#4 ++ p.code) 0

/-- The engine step's operation for each protocol state; the reserved codes have none (R84, R91). -/
def PState.stepInstr (p : PState) : Option Instr :=
  match p with
  | .start => some .stepStart
  | .addrAckPrep => some .stepAddrAckPrep
  | .addrAckCheck => some .stepAddrAckCheck
  | .sendByte => some .stepSendByte
  | .dataAckPrep => some .stepDataAckPrep
  | .dataAckCheck => some .stepDataAckCheck
  | .receiveByte => some .stepReceiveByte
  | .receiveStore => some .stepReceiveStore
  | .rxAckSent => some .stepRxAckSent
  | .prepareStop => some .stepPrepareStop
  | .stop => some .stepStop
  | .reserved _ => none

/-- The protocol state whose act an engine-step operation runs (R84, R91). -/
def Instr.stepState (i : Instr) : Option PState :=
  match i with
  | .stepStart => some .start
  | .stepAddrAckPrep => some .addrAckPrep
  | .stepAddrAckCheck => some .addrAckCheck
  | .stepSendByte => some .sendByte
  | .stepDataAckPrep => some .dataAckPrep
  | .stepDataAckCheck => some .dataAckCheck
  | .stepReceiveByte => some .receiveByte
  | .stepReceiveStore => some .receiveStore
  | .stepRxAckSent => some .rxAckSent
  | .stepPrepareStop => some .prepareStop
  | .stepStop => some .stop
  | .issueStart | .sendByte _ | .receiveByte | .readReceivedByte | .prepareStopOrRestart _ | .issueStop
  | .prepareAckPhase | .readAckBit | .sendAckBit _ => none
  | .start _ | .resume | .forceStop | .getError | .isBusy | .acquire | .release | .raiseEvent | .clearEvent
  | .checkEvent | .descRead _ _ | .descWrite _ _ _ | .memRead _ | .memWrite _ _ => none
  | .shiftComplete | .schedIter | .lpmWait | .extStimulus => none

/-! ### The host's numbering of a table row's bits -/

/-- The operation the decoder reads from the word whose bits are `w`, under the reset configuration. Every command
word is 32 bits (R94), so a number that does not fit in 32 bits is no command word. -/
def decodeTableWord (nbits w : Nat) : Option Instr :=
  let v := w % 2 ^ nbits
  if v < 2 ^ 32 then
    match decode Config.default (BitVec.ofNat 32 v) with
    | .ok i => some i
    | .error _ => none
  else none

end Sys2Proof
end

