-- ==== Sys2Proof/Machine/State.lean ====
section
/-! DEFINITION. The state of the block as plain data (spec 10_state.md R21 to R54), its reset (R216), and the reasons a
step can stop. -/

namespace Sys2Proof.Machine

/-! ### Pieces of state -/

/-- `DESC[d].CONT`: NULL or a continuation identifier (R27). -/
inductive ContRef where
  | null
  | ref (c : Half)
  deriving DecidableEq, Repr

/-- One descriptor slot (R22). `none` is the spec's own value `⊥`, "a register or field that nothing has written since
reset" (R11). -/
structure Desc where
  /-- R23 -/
  addr : Option Byte
  /-- R24 -/
  rem : Option Half
  /-- R25 -/
  kind : Option Kind
  /-- R26 -/
  cur : Option Half
  /-- R27 -/
  cont : Option ContRef
  deriving DecidableEq, Repr

/-- The reset value of a descriptor slot: `⊥` in every field (R216). -/
def Desc.unwritten : Desc := { addr := none, rem := none, kind := none, cur := none, cont := none }

/-- A shift the engine arms (R38). -/
inductive ShiftOp where
  /-- a byte being shifted out -/
  | tx8 (b : Byte)
  /-- a byte being shifted in -/
  | rx8
  /-- an acknowledgement bit being shifted in -/
  | rx1
  /-- an acknowledgement bit being shifted out, `true` for NACK (R82) -/
  | tx1 (isNack : Bool)
  /-- the stop (`true`) or restart (`false`) marker bit -/
  | prep (isStop : Bool)
  deriving DecidableEq, Repr

/-- The bus events of `TRACE` (R45). -/
inductive BusEvent where
  | start
  | rstart
  | tx (b : Byte)
  /-- the slave's acknowledgement bit, `true` for NACK (R82) -/
  | ackIn (isNack : Bool)
  | rx (b : Byte)
  /-- the master's acknowledgement bit, `true` for NACK (R82) -/
  | ackOut (isNack : Bool)
  | prepStop
  | prepRestart
  | stop
  deriving DecidableEq, Repr

/-- `BUSCOND` (R46). -/
inductive BusCond where
  | idle
  | active
  | restartReady
  | stopReady
  deriving DecidableEq, Repr

/-- The registers an `UnwrittenRead` record can name (R198). -/
inductive RegName where
  | descField (d : DescRef) (f : Field)
  | sr
  | ghostDir
  deriving DecidableEq, Repr

/-- The operations an `OwnershipViolation` record can name (R197). -/
inductive OwnedOp where
  | start
  | descWrite
  | schedIter
  deriving DecidableEq, Repr

/-- What is ill formed in an `IllFormedDescriptor` record (R201). -/
inductive IllFormed where
  | kind
  | direction
  deriving DecidableEq, Repr

/-- The bus event a `BusConditionViolation` record names (R206). -/
inductive BusCondEvent where
  | start
  | stop
  deriving DecidableEq, Repr

/-- The model faults of R196 with their info (R197 to R206, R208). Raising one is the spec's own exception: the step is
taken and leaves a record in `FAULTS`. -/
inductive ModelFault where
  | ownershipViolation (op : OwnedOp)
  | unwrittenRead (reg : RegName)
  | bufferNotAdmitted (a : Half)
  | noLiveDescriptor
  | illFormedDescriptor (what : IllFormed)
  | directionChanged
  | remainingUnderflow
  | acquireWhileBusy
  | shiftOverlap (op : ShiftOp)
  | busConditionViolation (ev : BusCondEvent)
  | reservedState (code : BitVec 4)
  deriving DecidableEq, Repr

/-- A record of `FAULTS` (R44, R196). The record's `code` is computed from the fault (`ModelFault.code`). -/
structure FaultRecord where
  /-- the fault's name and info -/
  fault : ModelFault
  agent : Agent
  /-- the command word of the step -/
  op : Word
  deriving DecidableEq, Repr

/-- Where the foreground's host program stands, as far as the block tells it (R176, R177, R213): in the loop or a main
program, or in the program of the continuation a scheduler iteration invoked, with its descriptor argument. DEDUCED (log
entry 13). -/
inductive FgPos where
  | loop
  | continuation (c : Half) (d : DescRef)
  deriving DecidableEq, Repr

/-- One choice of the schedule (R9, R210: any agent whose step is enabled may be taken). -/
inductive Turn where
  /-- the foreground's host program issues this command word (R181) -/
  | foreground (w : Word)
  /-- the engine's step, whose word is `0x40 | PSTATE` (R91, R126) -/
  | engine
  /-- a primitive word of an engine act, taken alone (R88, R93; log entry 8) -/
  | primitive (w : Word)
  /-- the shifter's step (R112) -/
  | shifter
  /-- the host environment's external stimulus (R179) -/
  | environment
  /-- the invoked continuation's host program ends (R177) -/
  | contReturn
  deriving DecidableEq, Repr

/-- `HMEM` as a list of cells in one canonical form (R47): addresses strictly rising and below 2^16, and no cell that
holds what an unlisted address reads as. -/
abbrev Memory := List Host.Cell

/-- `lo` is the least address the head may have. -/
def Memory.wfFrom (lo : Nat) : Memory → Bool
  | [] => true
  | (a, b) :: rest =>
    decide (lo ≤ a) && decide (a < 65536) && decide (b ≠ Config.launchByte) && Memory.wfFrom (a + 1) rest

/-- The canonical form of `HMEM`. -/
def Memory.wf (m : Memory) : Bool := Memory.wfFrom 0 m

/-! ### The state -/

/-- The state of the model (R21). An `Option` in a register is `⊥` or `none` where the spec says so. -/
structure State where
  /-- the parameters of R8, changed by no step -/
  cfg : Config
  /-- `DESC[0..14]`; the slots below `N_DESC` exist (R22, log entry 14) -/
  descs : Vector Desc 15
  /-- `BUSY` (R29) -/
  busy : Bool
  /-- `EVENT` (R30) -/
  event : Bool
  /-- `ERR` (R31) -/
  err : BitVec 4
  /-- `PSTATE` (R33) -/
  pstate : PState
  /-- `NACKF` (R34) -/
  nackf : Bool
  /-- `LIVE` (R35) -/
  live : Option DescRef
  /-- `SIG_EN` (R36) -/
  sigEn : Bool
  /-- `SIG_PEND` (R37) -/
  sigPend : Bool
  /-- `SHIFT` (R38) -/
  shift : Option ShiftOp
  /-- `SR`, `none` for `⊥` (R39) -/
  sr : Option Byte
  /-- `GHOST_DIR`, `none` for `⊥` (R40) -/
  ghostDir : Option Dir
  /-- `RV`, `none` for `⊥` (R42) -/
  rv : Option Half
  /-- `ASLEEP` (R43) -/
  asleep : Bool
  /-- `FAULTS`, a set (R44) -/
  faults : List FaultRecord
  /-- `TRACE`, oldest event first (R45) -/
  trace : List BusEvent
  /-- `BUSCOND` (R46) -/
  buscond : BusCond
  /-- `HMEM` (R47) -/
  hmem : Memory
  /-- `REFUSED` (R54) -/
  refused : Option Word
  /-- the foreground's host-program position (R176, R213) -/
  fgPos : FgPos
  /-- the schedule still to be taken: the model's own field (log entry 7) -/
  agenda : List Turn
  /-- the slave oracle's next answers, one byte a completed shift: the model's own field (log entry 6) -/
  draws : List Byte
  /-- how many answers have been drawn: the model's own field (log entry 6) -/
  drawCount : Nat
  deriving DecidableEq, Repr

/-- R216: the state after reset under a configuration and the host's launch memory. -/
def State.resetWith (cfg : Config) (hmem : Memory) : State :=
  { cfg := cfg
    descs := Vector.replicate 15 Desc.unwritten
    busy := false
    event := false
    err := 0
    pstate := .start
    nackf := false
    live := none
    sigEn := false
    sigPend := Config.sigPendReset
    shift := none
    sr := none
    ghostDir := none
    rv := none
    asleep := false
    faults := []
    trace := []
    buscond := .idle
    hmem := hmem
    refused := none
    fgPos := .loop
    agenda := []
    draws := []
    drawCount := 0 }

/-- R216: the machine right after reset, with R8's default parameters and nothing listed in `HMEM`. -/
def State.reset : State := State.resetWith Config.default []

/-- R219: power-up after a power loss is a reset (DEDUCED, log entry 18); the parameters and the schedule are not state of
the block. -/
def State.afterPowerLoss (s : State) : State :=
  { State.resetWith s.cfg [] with agenda := s.agenda, draws := s.draws, drawCount := s.drawCount }

/-! ### One update per register -/

/-- The descriptor in slot `d`. -/
def State.desc (s : State) (d : DescRef) : Desc := s.descs[d.val]'d.isLt

def State.setDesc (s : State) (d : DescRef) (x : Desc) : State := { s with descs := s.descs.set d.val x d.isLt }
def State.setBusy (s : State) (b : Bool) : State := { s with busy := b }
def State.setEvent (s : State) (b : Bool) : State := { s with event := b }
def State.setErr (s : State) (e : BitVec 4) : State := { s with err := e }
def State.setPstate (s : State) (p : PState) : State := { s with pstate := p }
def State.setNackf (s : State) (b : Bool) : State := { s with nackf := b }
def State.setLive (s : State) (d : DescRef) : State := { s with live := some d }
def State.setSigEn (s : State) (b : Bool) : State := { s with sigEn := b }
def State.setSigPend (s : State) (b : Bool) : State := { s with sigPend := b }
def State.setShift (s : State) (o : Option ShiftOp) : State := { s with shift := o }
def State.setSr (s : State) (b : Byte) : State := { s with sr := some b }
def State.setGhostDir (s : State) (d : Dir) : State := { s with ghostDir := some d }
def State.setRv (s : State) (v : Half) : State := { s with rv := some v }
def State.setAsleep (s : State) (b : Bool) : State := { s with asleep := b }
def State.setFaults (s : State) (fs : List FaultRecord) : State := { s with faults := fs }
def State.setTrace (s : State) (tr : List BusEvent) : State := { s with trace := tr }
def State.setBuscond (s : State) (c : BusCond) : State := { s with buscond := c }
def State.setHmem (s : State) (m : Memory) : State := { s with hmem := m }
def State.setRefused (s : State) (w : Word) : State := { s with refused := some w }
def State.setFgPos (s : State) (p : FgPos) : State := { s with fgPos := p }
def State.setAgenda (s : State) (ts : List Turn) : State := { s with agenda := ts }
def State.setDraws (s : State) (bs : List Byte) (n : Nat) : State := { s with draws := bs, drawCount := n }

/-! ### Why a step can stop -/

/-- No step of the spec: R191's fourth outcome. Each stop is safe: the model stops where the spec has no step. -/
inductive Fault where
  /-- raised by every step while `FAULTS` is nonempty (R44, R196): no agent has a further step; safe -/
  | haltedByFault
  /-- raised by every step while `REFUSED` holds a word (R54, R207): no agent has a further step; safe -/
  | haltedByRefusal
  /-- raised by a foreground operation while `ASLEEP = 1` (R43, R178): it is not enabled; safe -/
  | foregroundAsleep
  /-- raised by an engine step unless `SIG_EN = 1` and `SIG_PEND = 1`, and unless `PSTATE` is the state whose act the
  operation names (R91, R126): it is not enabled; safe -/
  | engineNotEnabled
  /-- raised by SHIFT_COMPLETE while `SHIFT = none` (R112): it is not enabled; safe -/
  | noShiftInFlight
  /-- raised by EXT_STIMULUS while `ASLEEP = 0` (R179): it is not enabled; safe -/
  | notAsleep
  /-- raised by the end of a continuation's program when the foreground runs none (R177); safe -/
  | noContinuation
  /-- raised by a step when the schedule names no further turn (R191: no step); safe -/
  | noTurn
  deriving DecidableEq, Repr

/-- What the model gives no meaning. -/
inductive Refusal where
  /-- raised by an arm of `exec` whose instruction has no meaning yet; safe -/
  | notModelled (mnemonic : String)
  deriving DecidableEq, Repr

end Sys2Proof.Machine
end

