-- ==== Sys2Proof/Machine/Flags.lean ====
section
/-! DEFINITION. The status word and the error codes (spec 10 R29 to R32, 30 R85 to R87), the owner of the live descriptor
(R41), and the numbers of the model faults (60 R196). -/

namespace Sys2Proof.Machine

/-! ### Error codes (R85); the codes 3 to 10 are reserved and written by no rule (R193) -/

def errNone : BitVec 4 := 0
def errNackAddr : BitVec 4 := 1
def errNackData : BitVec 4 := 2
def errMissingStart : BitVec 4 := 3
def errMissingStop : BitVec 4 := 4
def errDataCollision : BitVec 4 := 5
def errUnexpectedStop : BitVec 4 := 6
def errUnexpectedStart : BitVec 4 := 7
def errBufferExhausted : BitVec 4 := 8
def errBufferOutOfRange : BitVec 4 := 9
def errExtMemReadFail : BitVec 4 := 10

/-- R32, R87: `STATUS[7:6] = 0`, `STATUS[5] = BUSY`, `STATUS[4] = EVENT`, `STATUS[3:0] = ERR`. -/
def State.status (s : State) : Byte :=
  0#2 ++ BitVec.ofBool s.busy ++ BitVec.ofBool s.event ++ s.err

/-- R155: the error code, masked from the co-resident bits of `STATUS`. -/
def statusErr (status : Byte) : BitVec 4 := status.extractLsb' 0 4

/-- A flag as the 16-bit value `RV` receives (R166, R171). -/
def flagHalf (b : Bool) : Half := (BitVec.ofBool b).setWidth 16

/-- R41: who owns the live descriptor. -/
def State.owner (s : State) : Agent := if s.sigEn then .engine else .foreground

/-- R126, R209: the completion interrupt reaches the engine when it is enabled and pending. -/
def State.signalled (s : State) : Bool := s.sigEn && s.sigPend

/-- R196: the fault numbers. -/
def ModelFault.code (f : ModelFault) : Nat :=
  match f with
  | .ownershipViolation _ => 1
  | .unwrittenRead _ => 2
  | .bufferNotAdmitted _ => 3
  | .noLiveDescriptor => 4
  | .illFormedDescriptor _ => 5
  | .directionChanged => 6
  | .remainingUnderflow => 7
  | .acquireWhileBusy => 8
  | .shiftOverlap _ => 9
  | .busConditionViolation _ => 10
  | .reservedState _ => 11

end Sys2Proof.Machine
end

