-- ==== Sys2Proof/Machine/Operands.lean ====
section
/-! DEFINITION. The operand forms: the kind predicates of spec 00 R14, the descriptor fields as 16-bit values (42 R157,
R158), and the transmitted address byte (41 R127). -/

namespace Sys2Proof.Machine

/-- R14: `dir(k)`; `none` where it is undefined (`Idle` and the reserved code). -/
def dirOf (k : Kind) : Option Dir :=
  match k with
  | .sendThenStop | .sendThenSuspend | .sendThenRestart => some .w
  | .receiveThenStop | .receiveThenSuspend | .receiveThenRestart => some .r
  | .idle | .reserved => none

/-- R14: `suspend(k)`. -/
def isSuspend (k : Kind) : Bool :=
  match k with
  | .sendThenSuspend | .receiveThenSuspend => true
  | .idle | .sendThenStop | .receiveThenStop | .sendThenRestart | .receiveThenRestart | .reserved => false

/-- R14: `restart(k)`. -/
def isRestart (k : Kind) : Bool :=
  match k with
  | .sendThenRestart | .receiveThenRestart => true
  | .idle | .sendThenStop | .receiveThenStop | .sendThenSuspend | .receiveThenSuspend | .reserved => false

/-- R23: the direction bit of an address byte is bit 0. -/
def addrDirBit (a : Byte) : Bool := a.getLsbD 0

/-- R127: the byte on the wire, by `ADDR_RW_ON_WIRE`. -/
def wireByte (cfg : Config) (a : Byte) : Byte :=
  match cfg.addrRwOnWire with
  | .direction => a
  | .zero => a &&& 0xFE

/-- R157: NULL reads as 0, a `ContId` as its number. -/
def ContRef.toHalf (c : ContRef) : Half :=
  match c with
  | .null => 0
  | .ref c => c

/-- R158: `V = 0` is NULL. -/
def ContRef.ofHalf (v : Half) : ContRef := if v = 0 then .null else .ref v

/-- R157: a field's value, zero-extended to 16 bits; `none` is `⊥`. -/
def Desc.fieldWord (x : Desc) (f : Field) : Option Half :=
  match f with
  | .addr => x.addr.map (fun a => a.setWidth 16)
  | .rem => x.rem
  | .kind => x.kind.map (fun k => k.code.setWidth 16)
  | .cur => x.cur
  | .cont => x.cont.map ContRef.toHalf

/-- R158: a descriptor with one field written. -/
def Desc.writeField (x : Desc) (f : Field) (v : Half) : Desc :=
  match f with
  | .addr => { x with addr := some (v.extractLsb' 0 8) }
  | .rem => { x with rem := some v }
  | .kind => { x with kind := some (Kind.ofCode (v.extractLsb' 0 3)) }
  | .cur => { x with cur := some v }
  | .cont => { x with cont := some (ContRef.ofHalf v) }

/-- R25: a descriptor is well-formed for a transaction when `KIND` is neither `Idle` nor 7 and `ADDR[0] = dir(KIND)`. -/
def Desc.wellFormed (x : Desc) : Bool :=
  match x.kind, x.addr with
  | some k, some a =>
    match dirOf k with
    | some d => addrDirBit a == d.bit
    | none => false
  | _, _ => false

end Sys2Proof.Machine
end

