-- ==== Sys2Proof/Machine/Ops.lean ====
section
/-! DEFINITION. The operations every meaning is built from: taking a model fault (spec 60 R196) and a refusal (R207), what
enables each agent's step, `HMEM` (20 R61 to R65), reads of registers that may hold `⊥` (R11, R198), the shift (40 R101),
the start and stop conditions (R102, R107) and the slave oracle (R113). -/

namespace Sys2Proof.Machine

/-! ### Taking a fault, taking a refusal -/

/-- R196: `raise F(info)`. The step's writes are discarded, so `s` is the state before the step, and a record is added to
the set `FAULTS`. Nothing else is written: there is no saved state, no vector and no handler (R211, R215). -/
def State.takeFault (s : State) (r : FaultRecord) : State := s.setFaults (s.faults.insert r)

/-- R207: a refused word does not execute; the refusal mark holds the first refused word (R54). -/
def State.refuse (s : State) (w : Word) : State :=
  match s.refused with
  | none => s.setRefused w
  | some _ => s

/-- R191: a step that ends normally writes its result, and one that raises leaves the state before it plus the record. -/
def complete (agent : Agent) (i : Instr) (s : State) (r : Except ModelFault State) :
    Host.Outcome State Fault Refusal :=
  match r with
  | .ok t => .next t
  | .error f => .next (s.takeFault { fault := f, agent := agent, op := encode i })

/-! ### What enables a step -/

/-- R44, R54: no agent has a step in a state with a fault record or a refusal mark. -/
def State.halted (s : State) : Option Fault :=
  if s.faults ≠ [] then some .haltedByFault
  else if s.refused.isSome then some .haltedByRefusal
  else none

/-- R43: while `ASLEEP = 1` the foreground has no step. -/
def State.foregroundStop (s : State) : Option Fault :=
  match s.halted with
  | some f => some f
  | none => if s.asleep then some .foregroundAsleep else none

/-- R126: the engine's step is enabled exactly when `SIG_EN = 1`, `SIG_PEND = 1` and `FAULTS` is empty; it is the step
of the state `PSTATE` holds (R91). -/
def State.engineStop (s : State) (p : PState) : Option Fault :=
  match s.halted with
  | some f => some f
  | none => if s.signalled && decide (s.pstate = p) then none else some .engineNotEnabled

/-- A foreground operation: atomic, enabled while `ASLEEP = 0` and `FAULTS` is empty (42, 43, 44). -/
def foregroundStep (i : Instr) (s : State) (r : Except ModelFault State) : Host.Outcome State Fault Refusal :=
  match s.foregroundStop with
  | some f => .fault f
  | none => complete .foreground i s r

/-- A primitive of an engine act, taken alone (R88, R93). -/
def primitiveStep (i : Instr) (s : State) (r : Except ModelFault State) : Host.Outcome State Fault Refusal :=
  match s.halted with
  | some f => .fault f
  | none => complete .engine i s r

/-- R126: ENGINE_STEP wakes the foreground, then runs the act of `PSTATE`. -/
def engineStep (p : PState) (i : Instr) (act : State → Except ModelFault State) (s : State) :
    Host.Outcome State Fault Refusal :=
  match s.engineStop p with
  | some f => .fault f
  | none => complete .engine i s (act (s.setAsleep false))

/-! ### Registers -/

/-- R11, R198: a read of a register that holds `⊥` raises `UnwrittenRead`. -/
def readReg {α : Type} (reg : RegName) (v : Option α) : Except ModelFault α :=
  match v with
  | some x => .ok x
  | none => .error (.unwrittenRead reg)

/-- R200: the live descriptor. DEDUCED (log entry 11): every act that reads `LD` raises `NoLiveDescriptor` without one. -/
def State.liveRef (s : State) : Except ModelFault DescRef :=
  match s.live with
  | some d => .ok d
  | none => .error .noLiveDescriptor

def State.readAddr (s : State) (d : DescRef) : Except ModelFault Byte := readReg (.descField d .addr) (s.desc d).addr
def State.readRem (s : State) (d : DescRef) : Except ModelFault Half := readReg (.descField d .rem) (s.desc d).rem
def State.readKind (s : State) (d : DescRef) : Except ModelFault Kind := readReg (.descField d .kind) (s.desc d).kind
def State.readCur (s : State) (d : DescRef) : Except ModelFault Half := readReg (.descField d .cur) (s.desc d).cur
def State.readCont (s : State) (d : DescRef) : Except ModelFault ContRef :=
  readReg (.descField d .cont) (s.desc d).cont

/-- R201: the direction of a kind; `Idle` and the reserved code have none. -/
def kindDir (k : Kind) : Except ModelFault Dir :=
  match dirOf k with
  | some d => .ok d
  | none => .error (.illFormedDescriptor .kind)

/-- R40, R202: the direction of the current kind against the one latched at START. -/
def State.checkDir (s : State) (dir : Dir) : Except ModelFault Unit := do
  let g ← readReg .ghostDir s.ghostDir
  if dir = g then .ok () else .error .directionChanged

/-- One data byte of the live descriptor has been moved: `REM` one lower, `CUR` one higher, modulo 2^16 (R133, R137). -/
def State.advance (s : State) (d : DescRef) (r c : Half) : State :=
  s.setDesc d { s.desc d with rem := some (r - 1), cur := some (c + 1) }

/-! ### `HMEM` -/

/-- The byte at an address; an unlisted address reads as the launch contents. -/
def Memory.read (m : Memory) (a : Nat) : Byte :=
  match m with
  | [] => Config.launchByte
  | (b, v) :: rest => if a = b then v else Memory.read rest a

/-- Whether a byte need not be listed. -/
def Memory.cell (a : Nat) (v : Byte) (rest : Memory) : Memory :=
  if v = Config.launchByte then rest else (a, v) :: rest

/-- The byte at an address replaced, in canonical form. -/
def Memory.write (m : Memory) (a : Nat) (v : Byte) : Memory :=
  match m with
  | [] => Memory.cell a v []
  | (b, u) :: rest =>
    if a < b then Memory.cell a v ((b, u) :: rest)
    else if a = b then Memory.cell a v rest
    else (b, u) :: Memory.write rest a v

/-- R64: the host predicate `admits(a)`. -/
def admits (cfg : Config) (a : Half) : Bool :=
  cfg.admitted.any (fun r => decide (r.lo ≤ a.toNat) && decide (a.toNat ≤ r.hi))

/-- R12, R64: `MemRead(a, 1)`. -/
def State.memRead (s : State) (a : Half) : Except ModelFault Byte :=
  if admits s.cfg a then .ok (Memory.read s.hmem a.toNat) else .error (.bufferNotAdmitted a)

/-- R12, R64: `MemWrite(a, 1, v)`. -/
def State.memWrite (s : State) (a : Half) (v : Byte) : Except ModelFault State :=
  if admits s.cfg a then .ok (s.setHmem (Memory.write s.hmem a.toNat v)) else .error (.bufferNotAdmitted a)

/-! ### The bus -/

/-- R13: `emit(e)`. -/
def State.emit (s : State) (e : BusEvent) : State := s.setTrace (s.trace ++ [e])

/-- R101: `arm(op)`. -/
def State.arm (s : State) (op : ShiftOp) : Except ModelFault State :=
  match s.shift with
  | some _ => .error (.shiftOverlap op)
  | none => .ok ((s.setShift (some op)).setSigPend false)

/-- R102: `issue_start()`. -/
def State.issueStart (s : State) : Except ModelFault State :=
  match s.buscond with
  | .idle => .ok ((s.emit .start).setBuscond .active)
  | .restartReady => .ok ((s.emit .rstart).setBuscond .active)
  | .active | .stopReady => .error (.busConditionViolation .start)

/-- R107: `issue_stop()`. -/
def State.issueStop (s : State) : Except ModelFault State :=
  match s.buscond with
  | .stopReady => .ok ((s.emit .stop).setBuscond .idle)
  | .idle | .active | .restartReady => .error (.busConditionViolation .stop)

/-- R105: `read_received_byte()`. -/
def State.readReceivedByte (s : State) : Except ModelFault Byte := readReg .sr s.sr

/-- R109: `read_ack_bit()`, `true` for NACK. -/
def State.readAckBit (s : State) : Except ModelFault Bool := do
  let b ← readReg .sr s.sr
  .ok (b.getLsbD 0)

/-- R9, R113: one draw of the slave oracle: the environment's next answer where it has named one, else a free value. -/
def State.nextDraw (s : State) : Byte :=
  match s.draws with
  | b :: _ => b
  | [] => Config.freeByte s.drawCount

/-- The oracle after one draw. -/
def State.consumeDraw (s : State) : State := s.setDraws s.draws.tail (s.drawCount + 1)

/-- R113: the event of a completed shift, where `v` is the byte `SR` holds after it. -/
def ShiftOp.event (op : ShiftOp) (v : Byte) : BusEvent :=
  match op with
  | .tx8 b => .tx b
  | .rx8 => .rx v
  | .rx1 => .ackIn (v.getLsbD 0)
  | .tx1 isNack => .ackOut isNack
  | .prep true => .prepStop
  | .prep false => .prepRestart

/-- R114: the bus condition after a completed shift. -/
def ShiftOp.buscondAfter (op : ShiftOp) (c : BusCond) : BusCond :=
  match op with
  | .prep true => .stopReady
  | .prep false => .restartReady
  | .tx8 _ | .rx8 | .rx1 | .tx1 _ => c

/-- R112: the shift `op` in flight completes. Every row of R113's table leaves one drawn byte in `SR`: the received byte,
the acknowledgement bit with seven open bits, or, after a master-driven shift, any value. -/
def State.completeShift (s : State) (op : ShiftOp) : State :=
  ((((s.consumeDraw.emit (op.event s.nextDraw)).setSr s.nextDraw).setBuscond (op.buscondAfter s.buscond)).setShift
    none).setSigPend true

end Sys2Proof.Machine
end

