-- ==== Sys2Proof/Machine/EngineStep.lean ====
section
/-! DEFINITION. The protocol state machine: the acts and procedures of spec 41_engine_step.md (R126 to R142), and the
engine step of each protocol state. -/

namespace Sys2Proof.Machine

/-! ### Acts and procedures, in the order in which one may `goto` another -/

/-- R127: act START. -/
def actStart (s : State) : Except ModelFault State := do
  let d ← s.liveRef
  let k ← s.readKind d
  let dir ← kindDir k
  let a ← s.readAddr d
  if addrDirBit a = dir.bit then do
    let s1 ← ((s.setNackf false).setGhostDir dir).issueStart
    let s2 ← s1.arm (.tx8 (wireByte s.cfg a))
    .ok (s2.setPstate .addrAckPrep)
  else .error (.illFormedDescriptor .direction)

/-- R128: act ADDR_ACK_PREP. -/
def actAddrAckPrep (s : State) : Except ModelFault State := do
  let s1 ← s.arm .rx1
  .ok (s1.setPstate .addrAckCheck)

/-- R133: act SEND_BYTE. -/
def actSendByte (s : State) : Except ModelFault State := do
  let d ← s.liveRef
  let r ← s.readRem d
  if r = 0 then .error .remainingUnderflow
  else do
    let c ← s.readCur d
    let b ← s.memRead c
    let s1 ← s.arm (.tx8 b)
    .ok ((s1.advance d r c).setPstate .dataAckPrep)

/-- R134: act DATA_ACK_PREP. -/
def actDataAckPrep (s : State) : Except ModelFault State := do
  let s1 ← s.arm .rx1
  .ok (s1.setPstate .dataAckCheck)

/-- R136: act RECEIVE_BYTE. -/
def actReceiveByte (s : State) : Except ModelFault State := do
  let s1 ← s.arm .rx8
  .ok (s1.setPstate .receiveStore)

/-- R132: the suspend-yield leaves `PSTATE` as it is. -/
def suspendYield (s : State) : State := (s.setEvent true).setSigEn false

/-- R140: the restart-yield. -/
def restartYield (s : State) : Except ModelFault State := do
  let s1 ← s.arm (.prep false)
  .ok (((s1.setEvent true).setSigEn false).setPstate .start)

/-- R139: act PREPARE_STOP. -/
def actPrepareStop (s : State) : Except ModelFault State := do
  let d ← s.liveRef
  let k ← s.readKind d
  let _ ← kindDir k
  if isRestart k && !s.nackf then restartYield s
  else do
    let s1 ← s.arm (.prep true)
    .ok (s1.setPstate .stop)

/-- R130: the acknowledgement failure, `goto PREPARE_STOP`. -/
def nackFail (code : BitVec 4) (s : State) : Except ModelFault State :=
  actPrepareStop (((s.setErr code).setNackf true).setPstate .prepareStop)

/-- R131: the decision after a positive acknowledgement. -/
def afterAck (s : State) : Except ModelFault State := do
  let d ← s.liveRef
  let k ← s.readKind d
  let dir ← kindDir k
  s.checkDir dir
  let r ← s.readRem d
  if r = 0 then
    if isSuspend k then .ok (suspendYield s) else actPrepareStop (s.setPstate .prepareStop)
  else
    match dir with
    | .w => actSendByte (s.setPstate .sendByte)
    | .r => actReceiveByte (s.setPstate .receiveByte)

/-- R129: act ADDR_ACK_CHECK. -/
def actAddrAckCheck (s : State) : Except ModelFault State := do
  let nack ← s.readAckBit
  if nack then nackFail errNackAddr s else afterAck s

/-- R135: act DATA_ACK_CHECK. -/
def actDataAckCheck (s : State) : Except ModelFault State := do
  let nack ← s.readAckBit
  if nack then nackFail errNackData s else afterAck s

/-- R137: the master's acknowledgement of a received byte, when `r` bytes were still to come: NACK exactly on the last
byte of a kind that does not suspend. -/
def lastByteNack (k : Kind) (r : Half) : Bool := decide (r - 1 = 0) && !isSuspend k

/-- R137: act RECEIVE_STORE. -/
def actReceiveStore (s : State) : Except ModelFault State := do
  let d ← s.liveRef
  let r ← s.readRem d
  if r = 0 then .error .remainingUnderflow
  else do
    let k ← s.readKind d
    let dir ← kindDir k
    s.checkDir dir
    let b ← s.readReceivedByte
    let c ← s.readCur d
    let s1 ← s.memWrite c b
    let s2 ← (s1.advance d r c).arm (.tx1 (lastByteNack k r))
    .ok (s2.setPstate .rxAckSent)

/-- R138: act RX_ACK_SENT. -/
def actRxAckSent (s : State) : Except ModelFault State := afterAck s

/-- R141: act STOP, the stop-yield. -/
def actStop (s : State) : Except ModelFault State := do
  let s1 ← s.issueStop
  .ok (((s1.setEvent true).setSigEn false).setPstate .start)

/-! ### The engine step of each protocol state (R91, R126) -/

/-- R127. -/
def execStepStart (s : State) : Host.Outcome State Fault Refusal := engineStep .start .stepStart actStart s

/-- R128. -/
def execStepAddrAckPrep (s : State) : Host.Outcome State Fault Refusal :=
  engineStep .addrAckPrep .stepAddrAckPrep actAddrAckPrep s

/-- R129. -/
def execStepAddrAckCheck (s : State) : Host.Outcome State Fault Refusal :=
  engineStep .addrAckCheck .stepAddrAckCheck actAddrAckCheck s

/-- R133. -/
def execStepSendByte (s : State) : Host.Outcome State Fault Refusal := engineStep .sendByte .stepSendByte actSendByte s

/-- R134. -/
def execStepDataAckPrep (s : State) : Host.Outcome State Fault Refusal :=
  engineStep .dataAckPrep .stepDataAckPrep actDataAckPrep s

/-- R135. -/
def execStepDataAckCheck (s : State) : Host.Outcome State Fault Refusal :=
  engineStep .dataAckCheck .stepDataAckCheck actDataAckCheck s

/-- R136. -/
def execStepReceiveByte (s : State) : Host.Outcome State Fault Refusal :=
  engineStep .receiveByte .stepReceiveByte actReceiveByte s

/-- R137. -/
def execStepReceiveStore (s : State) : Host.Outcome State Fault Refusal :=
  engineStep .receiveStore .stepReceiveStore actReceiveStore s

/-- R138. -/
def execStepRxAckSent (s : State) : Host.Outcome State Fault Refusal :=
  engineStep .rxAckSent .stepRxAckSent actRxAckSent s

/-- R139. -/
def execStepPrepareStop (s : State) : Host.Outcome State Fault Refusal :=
  engineStep .prepareStop .stepPrepareStop actPrepareStop s

/-- R141. -/
def execStepStop (s : State) : Host.Outcome State Fault Refusal := engineStep .stop .stepStop actStop s

end Sys2Proof.Machine
end

