-- ==== Sys2Proof/Machine/Interface.lean ====
section
/-! DEFINITION. The transaction interface and the descriptor and buffer ports (spec 42_interface.md, R151 to R160). -/

namespace Sys2Proof.Machine

/-- R151: `start(d)`; NULL is the only error status (R152). -/
def execStart (d : Option DescRef) (s : State) : Host.Outcome State Fault Refusal :=
  foregroundStep (.start d) s
    (match d with
    | none => .ok (s.setRv 1)
    | some d => if s.sigEn then .error (.ownershipViolation .start) else .ok (((s.setLive d).setSigEn true).setRv 0))

/-- R153: `resume()`. -/
def execResume (s : State) : Host.Outcome State Fault Refusal :=
  foregroundStep .resume s (s.liveRef.map (fun _ => s.setSigEn true))

/-- R154: `force_stop()`, admitted under either owner. -/
def execForceStop (s : State) : Host.Outcome State Fault Refusal :=
  foregroundStep .forceStop s
    (s.liveRef.map (fun d => (s.setDesc d { s.desc d with rem := some 0 }).setSigEn true))

/-- R155: `get_error()`. -/
def execGetError (s : State) : Host.Outcome State Fault Refusal :=
  foregroundStep .getError s (.ok (s.setRv ((statusErr s.status).setWidth 16)))

/-- R157: DESC_READ, admitted under either owner (R78). -/
def execDescRead (d : DescRef) (f : Field) (s : State) : Host.Outcome State Fault Refusal :=
  foregroundStep (.descRead d f) s
    ((readReg (.descField d f) ((s.desc d).fieldWord f)).map (fun v => s.setRv v))

/-- R158: DESC_WRITE. -/
def execDescWrite (d : DescRef) (f : Field) (v : Half) (s : State) : Host.Outcome State Fault Refusal :=
  foregroundStep (.descWrite d f v) s
    (if s.live = some d ∧ s.sigEn = true then .error (.ownershipViolation .descWrite)
    else .ok (s.setDesc d ((s.desc d).writeField f v)))

/-- R159: MEM_READ, admitted under either owner. -/
def execMemRead (a : Half) (s : State) : Host.Outcome State Fault Refusal :=
  foregroundStep (.memRead a) s ((s.memRead a).map (fun b => s.setRv (b.setWidth 16)))

/-- R160: MEM_WRITE, admitted under either owner. -/
def execMemWrite (a : Half) (v : Byte) (s : State) : Host.Outcome State Fault Refusal :=
  foregroundStep (.memWrite a v) s (s.memWrite a v)

end Sys2Proof.Machine
end

