-- ==== Sys2Proof/Machine/Ownership.lean ====
section
/-! DEFINITION. The busy flag and the event-pending flag (spec 43_ownership.md, R166 to R171). -/

namespace Sys2Proof.Machine

/-- R166. -/
def execIsBusy (s : State) : Host.Outcome State Fault Refusal := foregroundStep .isBusy s (.ok (s.setRv (flagHalf s.busy)))

/-- R167: the documented precondition is a model fault (D24). -/
def execAcquire (s : State) : Host.Outcome State Fault Refusal :=
  foregroundStep .acquire s (if s.busy then .error .acquireWhileBusy else .ok (s.setBusy true))

/-- R168. -/
def execRelease (s : State) : Host.Outcome State Fault Refusal := foregroundStep .release s (.ok (s.setBusy false))

/-- R169. -/
def execRaiseEvent (s : State) : Host.Outcome State Fault Refusal := foregroundStep .raiseEvent s (.ok (s.setEvent true))

/-- R170. -/
def execClearEvent (s : State) : Host.Outcome State Fault Refusal := foregroundStep .clearEvent s (.ok (s.setEvent false))

/-- R171. -/
def execCheckEvent (s : State) : Host.Outcome State Fault Refusal :=
  foregroundStep .checkEvent s (.ok (s.setRv (flagHalf s.event)))

end Sys2Proof.Machine
end

