-- ==== Sys2Proof/Machine/Primitives.lean ====
section
/-! DEFINITION. The bit-transfer primitives and the shifter's step (spec 40_primitives.md, R101 to R114). -/

namespace Sys2Proof.Machine

/-- R102. -/
def execIssueStart (s : State) : Host.Outcome State Fault Refusal := primitiveStep .issueStart s s.issueStart

/-- R103: `arm(TX8(b))`. -/
def execSendByte (b : Byte) (s : State) : Host.Outcome State Fault Refusal :=
  primitiveStep (.sendByte b) s (s.arm (.tx8 b))

/-- R104: `arm(RX8)`. -/
def execReceiveByte (s : State) : Host.Outcome State Fault Refusal := primitiveStep .receiveByte s (s.arm .rx8)

/-- R105: the byte goes to the calling act (`State.readReceivedByte`); no register is written. -/
def execReadReceivedByte (s : State) : Host.Outcome State Fault Refusal :=
  primitiveStep .readReceivedByte s (s.readReceivedByte.map (fun _ => s))

/-- R106: `arm(PREP(is_stop))`. -/
def execPrepareStopOrRestart (isStop : Bool) (s : State) : Host.Outcome State Fault Refusal :=
  primitiveStep (.prepareStopOrRestart isStop) s (s.arm (.prep isStop))

/-- R107. -/
def execIssueStop (s : State) : Host.Outcome State Fault Refusal := primitiveStep .issueStop s s.issueStop

/-- R108: `arm(RX1)`. -/
def execPrepareAckPhase (s : State) : Host.Outcome State Fault Refusal := primitiveStep .prepareAckPhase s (s.arm .rx1)

/-- R109: the bit goes to the calling act (`State.readAckBit`); no register is written. -/
def execReadAckBit (s : State) : Host.Outcome State Fault Refusal :=
  primitiveStep .readAckBit s (s.readAckBit.map (fun _ => s))

/-- R110: `arm(TX1(is_nack))`. -/
def execSendAckBit (isNack : Bool) (s : State) : Host.Outcome State Fault Refusal :=
  primitiveStep (.sendAckBit isNack) s (s.arm (.tx1 isNack))

/-- R112: enabled exactly when `SHIFT ≠ none`, whatever `SIG_EN` is. -/
def execShiftComplete (s : State) : Host.Outcome State Fault Refusal :=
  match s.halted with
  | some f => .fault f
  | none =>
    match s.shift with
    | none => .fault .noShiftInFlight
    | some op => complete .shifter .shiftComplete s (.ok (s.completeShift op))

end Sys2Proof.Machine
end

