-- ==== Sys2Proof/Machine/Scheduler.lean ====
section
/-! DEFINITION. The scheduler iteration, the low-power wait and the external stimulus (spec 44_scheduler.md, R176 to
R179). -/

namespace Sys2Proof.Machine

/-- R176, with an event pending: clear it first (conflict C9), then release on the holder's behalf (conflict C10) or
invoke the continuation (R177). -/
def schedDispatch (s : State) : Except ModelFault State := do
  let d ← s.liveRef
  let c ← s.readCont d
  let s1 := s.setEvent false
  match c with
  | .null =>
    if s.sigEn then .error (.ownershipViolation .schedIter)
    else .ok ((s1.setBusy false).setDesc d { s.desc d with kind := some .idle })
  | .ref c => .ok (s1.setFgPos (.continuation c d))

/-- R176: SCHED_ITER. -/
def execSchedIter (s : State) : Host.Outcome State Fault Refusal :=
  foregroundStep .schedIter s (if s.event then schedDispatch s else .ok s)

/-- R178: LPM_WAIT. -/
def execLpmWait (s : State) : Host.Outcome State Fault Refusal :=
  foregroundStep .lpmWait s (if s.cfg.idleCheckAtomic && s.event then .ok s else .ok (s.setAsleep true))

/-- R179: EXT_STIMULUS, enabled while `ASLEEP = 1`. -/
def execExtStimulus (s : State) : Host.Outcome State Fault Refusal :=
  match s.halted with
  | some f => .fault f
  | none => if s.asleep then complete .host .extStimulus s (.ok (s.setAsleep false)) else .fault .notAsleep

end Sys2Proof.Machine
end

