-- ==== Sys2Proof/Machine/Dispatch.lean ====
section
/-! DEFINITION. The dispatch: one arm per operation of the opcode table, each one call of its meaning. -/

namespace Sys2Proof.Machine

def exec (i : Instr) (s : State) : Host.Outcome State Fault Refusal :=
  match i with
  | .issueStart => Sys2Proof.Machine.execIssueStart s
  | .sendByte b => Sys2Proof.Machine.execSendByte b s
  | .receiveByte => Sys2Proof.Machine.execReceiveByte s
  | .readReceivedByte => Sys2Proof.Machine.execReadReceivedByte s
  | .prepareStopOrRestart isStop => Sys2Proof.Machine.execPrepareStopOrRestart isStop s
  | .issueStop => Sys2Proof.Machine.execIssueStop s
  | .prepareAckPhase => Sys2Proof.Machine.execPrepareAckPhase s
  | .readAckBit => Sys2Proof.Machine.execReadAckBit s
  | .sendAckBit isNack => Sys2Proof.Machine.execSendAckBit isNack s
  | .start d => Sys2Proof.Machine.execStart d s
  | .resume => Sys2Proof.Machine.execResume s
  | .forceStop => Sys2Proof.Machine.execForceStop s
  | .getError => Sys2Proof.Machine.execGetError s
  | .isBusy => Sys2Proof.Machine.execIsBusy s
  | .acquire => Sys2Proof.Machine.execAcquire s
  | .release => Sys2Proof.Machine.execRelease s
  | .raiseEvent => Sys2Proof.Machine.execRaiseEvent s
  | .clearEvent => Sys2Proof.Machine.execClearEvent s
  | .checkEvent => Sys2Proof.Machine.execCheckEvent s
  | .descRead d f => Sys2Proof.Machine.execDescRead d f s
  | .descWrite d f v => Sys2Proof.Machine.execDescWrite d f v s
  | .memRead a => Sys2Proof.Machine.execMemRead a s
  | .memWrite a v => Sys2Proof.Machine.execMemWrite a v s
  | .stepStart => Sys2Proof.Machine.execStepStart s
  | .stepAddrAckPrep => Sys2Proof.Machine.execStepAddrAckPrep s
  | .stepAddrAckCheck => Sys2Proof.Machine.execStepAddrAckCheck s
  | .stepSendByte => Sys2Proof.Machine.execStepSendByte s
  | .stepDataAckPrep => Sys2Proof.Machine.execStepDataAckPrep s
  | .stepDataAckCheck => Sys2Proof.Machine.execStepDataAckCheck s
  | .stepReceiveByte => Sys2Proof.Machine.execStepReceiveByte s
  | .stepReceiveStore => Sys2Proof.Machine.execStepReceiveStore s
  | .stepRxAckSent => Sys2Proof.Machine.execStepRxAckSent s
  | .stepPrepareStop => Sys2Proof.Machine.execStepPrepareStop s
  | .stepStop => Sys2Proof.Machine.execStepStop s
  | .shiftComplete => Sys2Proof.Machine.execShiftComplete s
  | .schedIter => Sys2Proof.Machine.execSchedIter s
  | .lpmWait => Sys2Proof.Machine.execLpmWait s
  | .extStimulus => Sys2Proof.Machine.execExtStimulus s

end Sys2Proof.Machine
end

