-- ==== Sys2Proof/Machine/Fetch.lean ====
section
/-! DEFINITION. What the next step is: the schedule names an agent (spec 00 R9, 60 R210), a foreground word is decoded
(30 R92, R93), the engine's operation is named by `PSTATE` (R91, R126). -/

namespace Sys2Proof.Machine

/-- What a turn comes to: an operation to run at a state, or an outcome without one. -/
inductive Fetched where
  | run (i : Instr) (s : State)
  | done (o : Host.Outcome State Fault Refusal)

/-- R207: the refused word does not execute; the mark is set. -/
def refuseWord (w : Word) (s : State) : Fetched := .done (.next (s.refuse w))

/-- R92, R93, R207: a word the foreground issues. -/
def fetchForeground (w : Word) (s : State) : Fetched :=
  if s.asleep then .done (.fault .foregroundAsleep)
  else
    match decode s.cfg w with
    | .ok i => if i.issuable then .run i s else refuseWord w s
    | .error _ => refuseWord w s

/-- R88, R93: a primitive word of an engine act, taken alone. -/
def fetchPrimitive (w : Word) (s : State) : Fetched :=
  match decode s.cfg w with
  | .ok i => if i.isPrimitive then .run i s else refuseWord w s
  | .error _ => refuseWord w s

/-- R126, R142: the engine's step runs the act of `PSTATE`; a reserved code raises `ReservedState` (R208), with the word
`0x40 | PSTATE` in its record: DEDUCED (log entry 12). -/
def fetchEngine (s : State) : Fetched :=
  if s.signalled then
    match s.pstate.stepInstr with
    | some i => .run i s
    | none =>
      .done (.next (s.takeFault
        { fault := .reservedState s.pstate.code, agent := .engine, op := stepWord s.pstate }))
  else .done (.fault .engineNotEnabled)

/-- R177: the invoked continuation's program ends, its result is discarded, and the foreground returns to the loop. -/
def fetchContReturn (s : State) : Fetched :=
  if s.asleep then .done (.fault .foregroundAsleep)
  else
    match s.fgPos with
    | .continuation _ _ => .done (.next (s.setFgPos .loop))
    | .loop => .done (.fault .noContinuation)

def fetchTurn (t : Turn) (s : State) : Fetched :=
  match t with
  | .foreground w => fetchForeground w s
  | .engine => fetchEngine s
  | .primitive w => fetchPrimitive w s
  | .shifter => .run .shiftComplete s
  | .environment => .run .extStimulus s
  | .contReturn => fetchContReturn s

/-- The next turn of the schedule, taken off it; none in a halted state (R44, R54), none when the schedule is at its end
(R191). -/
def fetch (s : State) : Fetched :=
  match s.halted with
  | some f => .done (.fault f)
  | none =>
    match s.agenda with
    | [] => .done (.fault .noTurn)
    | t :: rest => fetchTurn t (s.setAgenda rest)

/-- The turn that takes an operation, and what its agent needs for the step to be enabled: the foreground awake, the
signal of the engine raised with `PSTATE` at the state named, a shift in flight, the foreground asleep (log entry 9). -/
def placeInstr (i : Instr) (w : Word) (s : State) : State :=
  if i.isPrimitive then s.setAgenda (.primitive w :: s.agenda)
  else
    match i.stepState with
    | some p =>
      ((((s.setAgenda (.engine :: s.agenda)).setSigEn true).setSigPend true).setShift none).setPstate p
    | none =>
      match i.issuer with
      | .shifter =>
        match s.shift with
        | some _ => s.setAgenda (.shifter :: s.agenda)
        | none => ((s.setAgenda (.shifter :: s.agenda)).setShift (some .rx8)).setSigPend false
      | .host => (s.setAgenda (.environment :: s.agenda)).setAsleep true
      | .foreground | .engine => (s.setAgenda (.foreground w :: s.agenda)).setAsleep false

/-- A command word placed as the next step; a word the decoder refuses is placed as a word the foreground issues. -/
def placeWord (w : Word) (s : State) : State :=
  match decode s.cfg w with
  | .ok i => placeInstr i w s
  | .error _ => (s.setAgenda (.foreground w :: s.agenda)).setAsleep false

end Sys2Proof.Machine
end

