-- ==== Sys2Proof/Machine/Step.lean ====
section
/-! DEFINITION. One step of the machine: the schedule's next turn, run by `exec`. -/

namespace Sys2Proof.Machine

/-- One atomic step of one agent (R66, R191). -/
def step (s : State) : Host.Outcome State Fault Refusal :=
  match fetch s with
  | .run i t => exec i t
  | .done o => o

/-- The state whose next step runs the operation whose table-numbered bits are `w` (a command word is 32 bits, R94). -/
def State.withFetchWord (s : State) (nbits w : Nat) : State := placeWord (BitVec.ofNat 32 (w % 2 ^ nbits)) s

end Sys2Proof.Machine
end

