-- ==== Sys2Proof/Safety.lean ====
section
/-! DEFINITION. What claims speak of: when each agent may step, the invariants of the block (spec 10 R51 to R53, 40 R111),
and the end of a run (70 R240). -/

namespace Sys2Proof.Machine

/-! ### When an agent may step -/

/-- No fault record and no refusal mark (R44, R54). -/
def State.Running (s : State) : Prop := s.faults = [] ∧ s.refused = none

/-- The foreground's step is enabled (42, 43, 44: "while `ASLEEP = 0` and `FAULTS` is empty"). -/
def State.ForegroundReady (s : State) : Prop := s.Running ∧ s.asleep = false

/-- The engine's step is enabled and is that of `p` (R126). -/
def State.EngineReady (s : State) (p : PState) : Prop :=
  s.Running ∧ s.sigEn = true ∧ s.sigPend = true ∧ s.pstate = p

/-- The state a fault of an operation leaves, from a running state: the state before it and one record (R196). -/
def State.faulted (s : State) (i : Instr) (f : ModelFault) : State :=
  { s with faults := [{ fault := f, agent := i.issuer, op := encode i }] }

/-- An engine step that calls `after_ack` (R131): an acknowledgement check whose bit is ACK, or RX_ACK_SENT. -/
def State.PositiveAck (s : State) (i : Instr) (p : PState) : Prop :=
  (i = .stepAddrAckCheck ∧ p = .addrAckCheck ∧ ∃ b, s.sr = some b ∧ b.getLsbD 0 = false) ∨
    (i = .stepDataAckCheck ∧ p = .dataAckCheck ∧ ∃ b, s.sr = some b ∧ b.getLsbD 0 = false) ∨
    (i = .stepRxAckSent ∧ p = .rxAckSent)

/-! ### Invariants -/

/-- What every step keeps, whoever takes it. -/
structure State.Inv (s : State) : Prop where
  /-- R8: `1 <= N_DESC <= 15` -/
  config : s.cfg.wf = true
  /-- R47: `HMEM` is in its canonical form -/
  memory : Memory.wf s.hmem = true
  /-- R35: `LIVE` names a slot that exists -/
  live : ∀ d, s.live = some d → d.val < s.cfg.nDesc
  /-- R51 -/
  shift : s.shift ≠ none → s.sigPend = false
  /-- R192: `ERR` is NONE, NACK_ADDR or NACK_DATA -/
  err : s.err = errNone ∨ s.err = errNackAddr ∨ s.err = errNackData
  /-- R25, R83: no descriptor holds the reserved kind code -/
  kind : ∀ d, (s.desc d).kind ≠ some .reserved
  /-- R27: a continuation reference is one of the host's `ContId` -/
  cont : ∀ d c, (s.desc d).cont = some (.ref c) → isContId s.cfg c = true
  /-- R33, R142: `PSTATE` holds no reserved code -/
  pstate : ∀ k, s.pstate ≠ .reserved k
  /-- R200: signalling is enabled only with a live descriptor -/
  signalling : s.sigEn = true → s.live ≠ none
  /-- R44, R54: at most one fault or one refusal ends a run -/
  oneEnd : s.faults.length ≤ 1 ∧ (s.faults = [] ∨ s.refused = none)

/-- The bus phase of each protocol state: which shift may be in flight and in what bus condition (R84, R111). -/
def State.busPhase (s : State) : Prop :=
  match s.pstate with
  | .start =>
    (s.shift = none ∧ (s.buscond = .idle ∨ s.buscond = .restartReady)) ∨
      (s.shift = some (.prep false) ∧ s.buscond = .active)
  | .addrAckPrep => s.buscond = .active ∧ (s.shift = none ∨ ∃ b, s.shift = some (.tx8 b))
  | .dataAckPrep => s.buscond = .active ∧ (s.shift = none ∨ ∃ b, s.shift = some (.tx8 b))
  | .addrAckCheck => s.buscond = .active ∧ ((s.shift = none ∧ s.sr ≠ none) ∨ s.shift = some .rx1)
  | .dataAckCheck => s.buscond = .active ∧ ((s.shift = none ∧ s.sr ≠ none) ∨ s.shift = some .rx1)
  | .receiveStore => s.buscond = .active ∧ ((s.shift = none ∧ s.sr ≠ none) ∨ s.shift = some .rx8)
  | .rxAckSent => s.buscond = .active ∧ (s.shift = none ∨ ∃ n, s.shift = some (.tx1 n))
  | .stop =>
    (s.shift = none ∧ s.buscond = .stopReady) ∨ (s.shift = some (.prep true) ∧ s.buscond = .active)
  | .sendByte => False
  | .receiveByte => False
  | .prepareStop => False
  | .reserved _ => False

/-- The protocol invariant, kept by every step of the four agents. -/
structure State.BusInv (s : State) : Prop where
  /-- R51, R52: a completion is pending exactly when no shift is in flight -/
  pending : s.sigPend = s.shift.isNone
  /-- R111 -/
  phase : s.busPhase
  /-- R40: START has latched a direction before any later state -/
  ghost : s.pstate ≠ .start → s.ghostDir ≠ none

/-- The next turn is an agent's own step, not a primitive word taken alone (log entry 8). -/
def State.AgentTurn (s : State) : Prop := ∀ w, s.agenda.head? ≠ some (.primitive w)

/-! ### The end of a run, and a hang (R191, R240) -/

/-- A turn of the foreground's host program. -/
def Turn.isHostProgram (t : Turn) : Bool :=
  match t with
  | .foreground _ | .contReturn => true
  | .engine | .primitive _ | .shifter | .environment => false

/-- No turn of the foreground's host program is still to be taken. -/
def State.noHostTurn (s : State) : Bool := s.agenda.all (fun t => !t.isHostProgram)

/-- R240: the foreground's host program has finished: it is awake, in no continuation, and has no turn left. A foreground that
sleeps is inside its program's LPM_WAIT. -/
def State.ProgramFinished (s : State) : Prop := s.asleep = false ∧ s.fgPos = .loop ∧ s.noHostTurn = true

/-- R240: no fault, no refusal, the host program has finished, and no engine or shifter step is enabled. -/
def State.Ended (s : State) : Prop := s.Running ∧ s.ProgramFinished ∧ s.shift = none ∧ s.signalled = false

/-- R240: it ended with the bus idle, no event pending and the busy flag released. -/
def State.EndedCleanly (s : State) : Prop :=
  s.Ended ∧ s.buscond = .idle ∧ s.event = false ∧ s.busy = false

/-- R191, R234, R240: a hang: the run has not ended, and no agent will step. The engine is not signalled, a shift in flight
has no completion to come, a sleeping foreground no stimulus, and one that is awake no turn of its program. -/
def State.Hung (s : State) : Prop :=
  s.Running ∧ ¬ s.Ended ∧ s.signalled = false ∧ (s.shift ≠ none → .shifter ∉ s.agenda) ∧
    (s.asleep = true → .environment ∉ s.agenda) ∧ (s.asleep = false → s.noHostTurn = true)

/-! ### Progress (R8, R116, R239) -/

/-- `t` stands on the run from `s`. -/
def State.Reaches (s t : State) : Prop := ∃ n, Host.Core.run Sys2Proof.core n s = .next t

/-- `BUS_COMPLETES` (R8, R116): along the run from `s` every armed shift eventually completes. A run that a fault or a
refusal has ended owes no completion (R44, R54). A premise of claims, assumed by none of the model's definitions. -/
def State.BusCompletes (s : State) : Prop :=
  ∀ t, s.Reaches t → t.shift ≠ none → ∃ u, t.Reaches u ∧ (u.shift = none ∨ ¬ u.Running)

/-- Along the run from `s` every completion signal that is enabled and pending is eventually handled (R209, R211). -/
def State.EngineServed (s : State) : Prop :=
  ∀ t, s.Reaches t → t.signalled = true → ∃ u, t.Reaches u ∧ (u.signalled = false ∨ ¬ u.Running)

/-- The stop-yield (R16, R141). -/
def State.StopYielded (s : State) : Prop :=
  s.event = true ∧ s.sigEn = false ∧ s.sigPend = true ∧ s.shift = none ∧ s.pstate = .start ∧ s.buscond = .idle

/-! ### Transactions with every armed shift completing and the foreground doing nothing (R144, R145) -/

/-- An engine step, then `n` times a completion and the engine step it signals: while signalling stays enabled the two are
never enabled together (R51), so the run takes them in this order. -/
def busTurns (n : Nat) : List Turn := .engine :: (List.replicate n [Turn.shifter, Turn.engine]).flatten

/-- The bytes of `HMEM` at `c`, `c + 1`, … (modulo 2^16), as the bus events of a send phase that the slave
acknowledges. -/
def sentEvents (m : Memory) (c : Half) (n : Nat) : List BusEvent :=
  match n with
  | 0 => []
  | n + 1 => .tx (Memory.read m c.toNat) :: .ackIn false :: sentEvents m (c + 1) n

/-- The bus events of a receive phase whose received bytes are `vs`: the master acknowledges every byte but the last
(R137). -/
def receivedEvents (vs : List Byte) : List BusEvent :=
  match vs with
  | [] => []
  | v :: rest => .rx v :: .ackOut rest.isEmpty :: receivedEvents rest

/-- The oracle's answers in a receive phase: each received byte, then whatever `SR` holds after the master's own
acknowledgement bit (R113). -/
def receiveDraws (vs : List (Byte × Byte)) : List Byte :=
  match vs with
  | [] => []
  | (v, x) :: rest => v :: x :: receiveDraws rest

end Sys2Proof.Machine
end

