-- ==== Sys2Proof/Certificates/Slice0/Obligations.lean ====
section
/-! DEFINITION. The statements for the provers: what the numbered rules of spec/ say the operations and the machine do.
A statement of the form `exec i s = .next { s with … }` is at once the operation's result, its completion, and its frame:
every register, every flag and every byte of `HMEM` that the update does not name is unchanged. -/

open Sys2Proof Sys2Proof.Machine

/-! ### Encodings (30_encoding.md) -/

/-- R89 to R91: decoding the word of a well-formed operation gives the operation back, whatever the configuration and
whatever its operands. -/
def Obligations.DecodeOfEncodeIsTheOperation : Prop :=
  ∀ (cfg : Config) (i : Instr), i.wf cfg = true → decode cfg (encode i) = .ok i

/-- R89 to R92: a word the decoder accepts is the word of its operation, bit for bit, and the operation is well formed;
so every other word is refused. -/
def Obligations.AcceptedWordIsItsOperationsWord : Prop :=
  ∀ (cfg : Config) (w : Word) (i : Instr), decode cfg w = .ok i → encode i = w ∧ i.wf cfg = true

/-- R97: the worked encodings, under R8's default parameters. -/
def Obligations.WorkedEncodingsDecode : Prop :=
  decode Config.default 0x10000000 = .ok (.start (some 0)) ∧
  decode Config.default 0x10F00000 = .ok (.start none) ∧
  decode Config.default 0x310000D0 = .ok (.descWrite 0 .addr 0x00D0) ∧
  decode Config.default 0x31020001 = .ok (.descWrite 0 .kind 0x0001) ∧
  decode Config.default 0x31010003 = .ok (.descWrite 0 .rem 0x0003) ∧
  decode Config.default 0x31030200 = .ok (.descWrite 0 .cur 0x0200) ∧
  decode Config.default 0x31040000 = .ok (.descWrite 0 .cont 0x0000) ∧
  decode Config.default 0x33120201 = .ok (.memWrite 0x0201 0x12) ∧
  decode Config.default 0x13000000 = .ok .getError

/-- R90, R92: an operation byte outside R91 is refused, and so is a set must-be-zero bit of each format, an out-of-range
descriptor, a field selector of 5 or more, and a value that fails its field's check. -/
def Obligations.ReservedEncodingsAreRefused : Prop :=
  ∀ (cfg : Config) (w : Word),
    ((opField w).toNat ∉
        [0x00, 0x01, 0x02, 0x03, 0x04, 0x05, 0x06, 0x07, 0x08, 0x0A, 0x0B, 0x10, 0x11, 0x12, 0x13, 0x20, 0x21, 0x22,
          0x23, 0x24, 0x25, 0x30, 0x31, 0x32, 0x33, 0x40, 0x41, 0x42, 0x43, 0x44, 0x45, 0x46, 0x47, 0x48, 0x49, 0x4A,
          0x50, 0x60, 0x61, 0x70] →
      decode cfg w = .error (.unlistedOp (opField w))) ∧
    ((opField w).toNat ∈
        [0x00, 0x02, 0x03, 0x04, 0x05, 0x06, 0x07, 0x08, 0x0A, 0x0B, 0x11, 0x12, 0x13, 0x20, 0x21, 0x22, 0x23, 0x24,
          0x25, 0x40, 0x41, 0x42, 0x43, 0x44, 0x45, 0x46, 0x47, 0x48, 0x49, 0x4A, 0x50, 0x60, 0x61, 0x70] →
      w.extractLsb' 0 24 ≠ 0#24 → decode cfg w = .error .mbzSet) ∧
    (opField w = 0x01#8 → w.extractLsb' 8 16 ≠ 0#16 → decode cfg w = .error .mbzSet) ∧
    (opField w = 0x10#8 → w.extractLsb' 0 20 ≠ 0#20 → decode cfg w = .error .mbzSet) ∧
    (opField w = 0x30#8 → w.extractLsb' 0 16 ≠ 0#16 → decode cfg w = .error .mbzSet) ∧
    (opField w = 0x32#8 → w.extractLsb' 16 8 ≠ 0#8 → decode cfg w = .error .mbzSet) ∧
    (opField w = 0x10#8 → cfg.nDesc ≤ (dField w).toNat → dField w ≠ 15#4 → ∃ e, decode cfg w = .error e) ∧
    (opField w = 0x30#8 ∨ opField w = 0x31#8 →
      (cfg.nDesc ≤ (dField w).toNat ∨ dField w = 15#4 ∨ 5 ≤ (fField w).toNat) → ∃ e, decode cfg w = .error e) ∧
    (opField w = 0x31#8 →
      ((fField w = 0#4 ∧ w.extractLsb' 8 8 ≠ 0#8) ∨
        (fField w = 2#4 ∧ (w.extractLsb' 3 13 ≠ 0#13 ∨ w.extractLsb' 0 3 = 7#3)) ∨
        (fField w = 4#4 ∧ w.extractLsb' 0 16 ≠ 0#16 ∧ isContId cfg (w.extractLsb' 0 16) = false)) →
      ∃ e, decode cfg w = .error e)

/-! ### One step of the machine (00 R9, 41 R126, 60 R191, R207) -/

/-- When the next turn is the foreground's and its word decodes to an operation a program may issue, the step is that
operation at the state with the turn taken off the schedule (the schedule is the model's own, log entry 7). -/
def Obligations.StepRunsTheForegroundWord : Prop :=
  ∀ (s : State) (w : Word) (rest : List Turn) (i : Instr), s.ForegroundReady → s.agenda = .foreground w :: rest →
    decode s.cfg w = .ok i → i.issuable = true → step s = exec i { s with agenda := rest }

/-- R91, R126: the engine's step is the operation whose word is `0x40 | PSTATE`; the shifter's and the environment's steps
are SHIFT_COMPLETE and EXT_STIMULUS; a primitive word taken alone is that primitive (log entry 8); and when an invoked continuation's program ends,
the foreground is back in its loop (R177). -/
def Obligations.StepRunsTheAgentsOperation : Prop :=
  ∀ (s : State) (rest : List Turn), s.Running →
    (s.agenda = .engine :: rest → s.sigEn = true → s.sigPend = true → ∀ i, s.pstate.stepInstr = some i →
      step s = exec i { s with agenda := rest } ∧ decode s.cfg (wordOf (0x4#4 ++ s.pstate.code) 0) = .ok i) ∧
    (s.agenda = .shifter :: rest → step s = exec .shiftComplete { s with agenda := rest }) ∧
    (s.agenda = .environment :: rest → step s = exec .extStimulus { s with agenda := rest }) ∧
    (∀ w i, s.agenda = .primitive w :: rest → decode s.cfg w = .ok i → i.isPrimitive = true →
      step s = exec i { s with agenda := rest }) ∧
    (s.agenda = .contReturn :: rest → s.asleep = false → ∀ c d, s.fgPos = .continuation c d →
      step s = .next { s with agenda := rest, fgPos := .loop })

/-- R207: a word the decoder refuses, or a primitive or agent-step word a program issues, does not execute; the refusal
mark receives it and nothing else changes. -/
def Obligations.RefusedWordOnlySetsTheMark : Prop :=
  ∀ (s : State) (w : Word) (rest : List Turn), s.ForegroundReady → s.agenda = .foreground w :: rest →
    ((∃ e, decode s.cfg w = .error e) ∨ (opField w).toNat ≤ 0x0B ∨ (opField w).toNat ∈ List.range' 0x40 11 ∨
      (opField w).toNat = 0x50 ∨ (opField w).toNat = 0x70) →
    step s = .next { s with agenda := rest, refused := some w }

/-- R44, R54: with a fault recorded or a word refused no agent has a further step. -/
def Obligations.NoStepAfterAFaultOrARefusal : Prop :=
  ∀ (s : State), s.faults ≠ [] ∨ s.refused ≠ none →
    (∃ f, step s = .fault f) ∧ ∀ i, ∃ f, exec i s = .fault f

/-- R142, R208: an engine step whose `PSTATE` is a reserved code raises `ReservedState` with that code. -/
def Obligations.ReservedProtocolStateFaults : Prop :=
  ∀ (s : State) (rest : List Turn) (k : Fin 5), s.Running → s.agenda = .engine :: rest → s.sigEn = true →
    s.sigPend = true → s.pstate = .reserved k →
    step s = .next
      { s with
        agenda := rest
        faults :=
          [{ fault := .reservedState (BitVec.ofNat 4 (11 + k.val))
             agent := .engine
             op := wordOf (0x4#4 ++ BitVec.ofNat 4 (11 + k.val)) 0 }] }

/-! ### Reset (70_reset_and_hazards.md) -/

/-- R216: every register after reset, under any parameters and any launch memory `m`; the engine and the shifter have no
step. `State.reset` is such a state; its parameters and launch memory are the model's (log entries 1, 3 and 4). -/
def Obligations.ResetLeavesTheStatedValues : Prop :=
  (∀ (cfg : Config) (m : Memory) (s : State), s = State.resetWith cfg m →
    (∀ d, s.desc d = { addr := none, rem := none, kind := none, cur := none, cont := none }) ∧
    s.busy = false ∧ s.event = false ∧ s.err = 0 ∧ s.status = 0x00 ∧ s.pstate = .start ∧ s.nackf = false ∧
    s.live = none ∧ s.sigEn = false ∧ s.sigPend = true ∧ s.shift = none ∧ s.sr = none ∧ s.ghostDir = none ∧
    s.rv = none ∧ s.asleep = false ∧ s.trace = [] ∧ s.buscond = .idle ∧ s.faults = [] ∧ s.refused = none ∧
    s.hmem = m ∧ s.cfg = cfg ∧
    (∀ i, i.stepState ≠ none → exec i s = .fault .engineNotEnabled) ∧
    exec .shiftComplete s = .fault .noShiftInFlight) ∧
  ∃ cfg m, State.reset = State.resetWith cfg m

/-! ### The bit-transfer primitives and the shifter (40_primitives.md) -/

/-- R101, R103, R104, R106, R108, R110: an arming primitive puts its shift in flight and clears the pending completion;
while a shift is in flight it raises `ShiftOverlap` with the shift asked for. -/
def Obligations.ArmingPrimitivesArmTheirShift : Prop :=
  ∀ (s : State), s.Running →
    (s.shift = none →
      (∀ b, exec (.sendByte b) s = .next { s with shift := some (.tx8 b), sigPend := false }) ∧
      exec .receiveByte s = .next { s with shift := some .rx8, sigPend := false } ∧
      (∀ p, exec (.prepareStopOrRestart p) s = .next { s with shift := some (.prep p), sigPend := false }) ∧
      exec .prepareAckPhase s = .next { s with shift := some .rx1, sigPend := false } ∧
      (∀ n, exec (.sendAckBit n) s = .next { s with shift := some (.tx1 n), sigPend := false })) ∧
    (s.shift ≠ none →
      (∀ b, exec (.sendByte b) s = .next (s.faulted (.sendByte b) (.shiftOverlap (.tx8 b)))) ∧
      exec .receiveByte s = .next (s.faulted .receiveByte (.shiftOverlap .rx8)) ∧
      (∀ p, exec (.prepareStopOrRestart p) s =
        .next (s.faulted (.prepareStopOrRestart p) (.shiftOverlap (.prep p)))) ∧
      exec .prepareAckPhase s = .next (s.faulted .prepareAckPhase (.shiftOverlap .rx1)) ∧
      (∀ n, exec (.sendAckBit n) s = .next (s.faulted (.sendAckBit n) (.shiftOverlap (.tx1 n)))))

/-- R102, R107, R206: the start and stop conditions, each in its bus conditions, and the violation in the others. -/
def Obligations.StartAndStopConditionsFollowTheBus : Prop :=
  ∀ (s : State), s.Running →
    (s.buscond = .idle →
      exec .issueStart s = .next { s with trace := s.trace ++ [.start], buscond := .active }) ∧
    (s.buscond = .restartReady →
      exec .issueStart s = .next { s with trace := s.trace ++ [.rstart], buscond := .active }) ∧
    (s.buscond = .active ∨ s.buscond = .stopReady →
      exec .issueStart s = .next (s.faulted .issueStart (.busConditionViolation .start))) ∧
    (s.buscond = .stopReady →
      exec .issueStop s = .next { s with trace := s.trace ++ [.stop], buscond := .idle }) ∧
    (s.buscond ≠ .stopReady →
      exec .issueStop s = .next (s.faulted .issueStop (.busConditionViolation .stop)))

/-- R105, R109, R67: the two reading primitives return `SR` and `SR[0]` and change no state; a read of `⊥` raises
`UnwrittenRead(SR)`. -/
def Obligations.ReadingPrimitivesReturnTheShiftRegister : Prop :=
  ∀ (s : State), s.Running →
    (∀ b, s.sr = some b →
      s.readReceivedByte = .ok b ∧ exec .readReceivedByte s = .next s ∧
      s.readAckBit = .ok (b.getLsbD 0) ∧ exec .readAckBit s = .next s) ∧
    (s.sr = none →
      exec .readReceivedByte s = .next (s.faulted .readReceivedByte (.unwrittenRead .sr)) ∧
      exec .readAckBit s = .next (s.faulted .readAckBit (.unwrittenRead .sr)))

/-- R112 to R114: SHIFT_COMPLETE is enabled exactly when a shift is in flight, whatever `SIG_EN` and `ASLEEP` are. It emits
the event of the shift, leaves the drawn byte in `SR` (R113: a draw under no law, which is the environment's next answer
where it has named one), sets the bus condition of a marker bit, ends the shift and sets `SIG_PEND`. -/
def Obligations.ShiftCompletionActsOnTheBus : Prop :=
  ∀ (s : State), s.Running →
    (s.shift = none → exec .shiftComplete s = .fault .noShiftInFlight) ∧
    (∀ op, s.shift = some op → ∃ v, (∀ b rest, s.draws = b :: rest → v = b) ∧
      exec .shiftComplete s = .next
        { s with
          shift := none
          sigPend := true
          sr := some v
          trace := s.trace ++
            [match op with
              | .tx8 b => .tx b
              | .rx8 => .rx v
              | .rx1 => .ackIn (v.getLsbD 0)
              | .tx1 n => .ackOut n
              | .prep p => if p then .prepStop else .prepRestart]
          buscond :=
            match op with
              | .prep p => if p then .stopReady else .restartReady
              | _ => s.buscond
          draws := s.draws.tail
          drawCount := s.drawCount + 1 })

/-! ### The protocol state machine (41_engine_step.md) -/

/-- R126: an engine step is enabled exactly when `SIG_EN = 1`, `SIG_PEND = 1` and `FAULTS` is empty (and no word has been
refused, R54), and it is the step of the state `PSTATE` holds (R91). -/
def Obligations.EngineStepIsEnabledExactlyWhenSignalled : Prop :=
  ∀ (s : State) (i : Instr) (p : PState), i.stepState = some p →
    ((∃ t, exec i s = .next t) ↔
      s.faults = [] ∧ s.refused = none ∧ s.sigEn = true ∧ s.sigPend = true ∧ s.pstate = p)

/-- R127: for a live descriptor that is well-formed, START clears `NACKF`, latches the direction, issues the start
condition (a repeated one after a restart-yield), and arms the address byte. It reads neither `REM` nor `CUR`. -/
def Obligations.StartActIssuesStartAndAddress : Prop :=
  ∀ (s : State) (d : DescRef) (k : Kind) (dir : Dir) (a : Byte), s.EngineReady .start → s.shift = none →
    s.live = some d → (s.desc d).kind = some k → (s.desc d).addr = some a → dirOf k = some dir →
    a.getLsbD 0 = decide (dir = .r) → (s.buscond = .idle ∨ s.buscond = .restartReady) →
    exec .stepStart s = .next
      { s with
        asleep := false
        nackf := false
        ghostDir := some dir
        trace := s.trace ++ [if s.buscond = .idle then .start else .rstart]
        buscond := .active
        shift := some (.tx8 (if s.cfg.addrRwOnWire = .direction then a else a &&& 0xFE))
        sigPend := false
        pstate := .addrAckPrep }

/-- R127, R200, R201, R198: the checks of START in their order, each leaving the state before the step and one record. -/
def Obligations.StartActChecksItsDescriptor : Prop :=
  ∀ (s : State), s.EngineReady .start →
    (s.live = none → exec .stepStart s = .next (s.faulted .stepStart .noLiveDescriptor)) ∧
    (∀ d, s.live = some d →
      ((s.desc d).kind = none →
        exec .stepStart s = .next (s.faulted .stepStart (.unwrittenRead (.descField d .kind)))) ∧
      ((s.desc d).kind = some .idle ∨ (s.desc d).kind = some .reserved →
        exec .stepStart s = .next (s.faulted .stepStart (.illFormedDescriptor .kind))) ∧
      (∀ k dir, (s.desc d).kind = some k → dirOf k = some dir →
        ((s.desc d).addr = none →
          exec .stepStart s = .next (s.faulted .stepStart (.unwrittenRead (.descField d .addr)))) ∧
        (∀ a, (s.desc d).addr = some a → a.getLsbD 0 ≠ decide (dir = .r) →
          exec .stepStart s = .next (s.faulted .stepStart (.illFormedDescriptor .direction)))))

/-- R128, R134: the two acknowledgement preparations arm the slave's acknowledgement bit and read no descriptor; a
shift in flight, unreachable from reset (R52), overlaps. -/
def Obligations.AckPreparationArmsTheAckBit : Prop :=
  ∀ (s : State),
    (s.EngineReady .addrAckPrep →
      (s.shift = none → exec .stepAddrAckPrep s = .next
        { s with asleep := false, shift := some .rx1, sigPend := false, pstate := .addrAckCheck }) ∧
      (s.shift ≠ none → exec .stepAddrAckPrep s = .next (s.faulted .stepAddrAckPrep (.shiftOverlap .rx1)))) ∧
    (s.EngineReady .dataAckPrep →
      (s.shift = none → exec .stepDataAckPrep s = .next
        { s with asleep := false, shift := some .rx1, sigPend := false, pstate := .dataAckCheck }) ∧
      (s.shift ≠ none → exec .stepDataAckPrep s = .next (s.faulted .stepDataAckPrep (.shiftOverlap .rx1))))

/-- R129, R130, R135, R139, R194: a NACK writes the address- or data-scoped error code over any earlier one, sets `NACKF`
and prepares a true stop, whatever `REM` and whatever the kind, restart and suspend kinds included (conflict C2). -/
def Obligations.NackPreparesATrueStop : Prop :=
  ∀ (s : State) (d : DescRef) (k : Kind) (b : Byte), s.shift = none → s.sr = some b → b.getLsbD 0 = true →
    s.live = some d → (s.desc d).kind = some k → k ≠ .idle → k ≠ .reserved →
    (s.EngineReady .addrAckCheck → exec .stepAddrAckCheck s = .next
      { s with
        asleep := false, err := 1, nackf := true, shift := some (.prep true), sigPend := false, pstate := .stop }) ∧
    (s.EngineReady .dataAckCheck → exec .stepDataAckCheck s = .next
      { s with
        asleep := false, err := 2, nackf := true, shift := some (.prep true), sigPend := false, pstate := .stop })

/-- R131, R133, R198, R199: the decision after a positive acknowledgement reads `KIND`, `REM` and, in the send direction with
bytes left, `CUR`: an unwritten one raises `UnwrittenRead`, a cursor that is not admitted `BufferNotAdmitted`; otherwise the
byte at the cursor is armed, `REM` is one lower and `CUR` one higher, modulo 2^16. -/
def Obligations.AckWithBytesLeftSendsTheNext : Prop :=
  ∀ (s : State) (i : Instr) (p : PState) (d : DescRef), s.EngineReady p → s.PositiveAck i p → s.live = some d →
    ((s.desc d).kind = none → exec i s = .next (s.faulted i (.unwrittenRead (.descField d .kind)))) ∧
    (∀ k dir, (s.desc d).kind = some k → dirOf k = some dir → s.ghostDir = some dir →
      ((s.desc d).rem = none → exec i s = .next (s.faulted i (.unwrittenRead (.descField d .rem)))) ∧
      (∀ r, (s.desc d).rem = some r → r ≠ 0 → dir = .w →
        ((s.desc d).cur = none → exec i s = .next (s.faulted i (.unwrittenRead (.descField d .cur)))) ∧
        (∀ c, (s.desc d).cur = some c →
          (admits s.cfg c = false → exec i s = .next (s.faulted i (.bufferNotAdmitted c))) ∧
          (admits s.cfg c = true → s.shift = none → exec i s = .next
            { s with
              asleep := false
              shift := some (.tx8 (Memory.read s.hmem c.toNat))
              sigPend := false
              descs := s.descs.set d.val { s.desc d with rem := some (r - 1), cur := some (c + 1) } d.isLt
              pstate := .dataAckPrep }))))

/-- R131, R136: after a positive acknowledgement with bytes left in the receive direction, a byte is armed to be shifted in;
`REM` and `CUR` are not yet changed. -/
def Obligations.AckWithBytesLeftReceivesTheNext : Prop :=
  ∀ (s : State) (i : Instr) (p : PState) (d : DescRef) (k : Kind) (r : Half), s.EngineReady p → s.PositiveAck i p →
    s.shift = none → s.live = some d → (s.desc d).kind = some k → dirOf k = some .r → s.ghostDir = some .r →
    (s.desc d).rem = some r → r ≠ 0 →
    exec i s = .next
      { s with asleep := false, shift := some .rx8, sigPend := false, pstate := .receiveStore }

/-- R131, R132: with no byte left a suspend kind yields: `EVENT` is raised, signalling disabled, and `PSTATE` and the
pending completion stay as they are. -/
def Obligations.AckAtTheEndSuspends : Prop :=
  ∀ (s : State) (i : Instr) (p : PState) (d : DescRef) (k : Kind) (dir : Dir), s.EngineReady p → s.PositiveAck i p →
    s.live = some d → (s.desc d).kind = some k → (k = .sendThenSuspend ∨ k = .receiveThenSuspend) →
    dirOf k = some dir → s.ghostDir = some dir → (s.desc d).rem = some 0 →
    exec i s = .next { s with asleep := false, event := true, sigEn := false }

/-- R131, R139, R140: with no byte left, a restart kind whose transaction has not failed prepares a repeated start, raises
`EVENT`, disables signalling and sets `PSTATE` to START, and no stop is issued; a ThenStop kind, or a restart kind whose
transaction has failed, prepares a true stop. -/
def Obligations.AckAtTheEndRestartsOrStops : Prop :=
  ∀ (s : State) (i : Instr) (p : PState) (d : DescRef) (k : Kind) (dir : Dir), s.EngineReady p → s.PositiveAck i p →
    s.shift = none → s.live = some d → (s.desc d).kind = some k → dirOf k = some dir → s.ghostDir = some dir →
    (s.desc d).rem = some 0 →
    ((k = .sendThenRestart ∨ k = .receiveThenRestart) → s.nackf = false →
      exec i s = .next
        { s with
          asleep := false
          shift := some (.prep false)
          sigPend := false
          event := true
          sigEn := false
          pstate := .start }) ∧
    ((k = .sendThenStop ∨ k = .receiveThenStop ∨
        ((k = .sendThenRestart ∨ k = .receiveThenRestart) ∧ s.nackf = true)) →
      exec i s = .next
        { s with asleep := false, shift := some (.prep true), sigPend := false, pstate := .stop })

/-- R131, R201, R202: the decision after an acknowledgement faults on a kind without a direction and on a direction other
than the one latched at START; so does the store of a received byte (R137). -/
def Obligations.ChangedDirectionFaults : Prop :=
  ∀ (s : State) (i : Instr) (p : PState) (d : DescRef) (k : Kind), s.EngineReady p → s.live = some d →
    (s.desc d).kind = some k →
    (s.PositiveAck i p ∨ (i = .stepReceiveStore ∧ p = .receiveStore ∧ ∃ r, (s.desc d).rem = some r ∧ r ≠ 0)) →
    ((k = .idle ∨ k = .reserved) → exec i s = .next (s.faulted i (.illFormedDescriptor .kind))) ∧
    (∀ dir g, dirOf k = some dir → s.ghostDir = some g → dir ≠ g →
      exec i s = .next (s.faulted i .directionChanged))

/-- R133: the act SEND_BYTE from a state that holds it: the byte at the cursor is armed and the descriptor advanced, with
`0xFFFF` wrapping to `0x0000`; an address that is not admitted faults and moves nothing; `REM = 0` underflows. -/
def Obligations.SendByteActSendsTheCursorsByte : Prop :=
  ∀ (s : State) (d : DescRef) (r c : Half), s.EngineReady .sendByte → s.shift = none → s.live = some d →
    (s.desc d).rem = some r → (s.desc d).cur = some c →
    (r ≠ 0 → admits s.cfg c = true → exec .stepSendByte s = .next
      { s with
        asleep := false
        shift := some (.tx8 (Memory.read s.hmem c.toNat))
        sigPend := false
        descs := s.descs.set d.val
          { s.desc d with rem := some (r - 1), cur := some (if c = 0xFFFF then 0 else c + 1) } d.isLt
        pstate := .dataAckPrep }) ∧
    (r ≠ 0 → admits s.cfg c = false →
      exec .stepSendByte s = .next (s.faulted .stepSendByte (.bufferNotAdmitted c))) ∧
    (r = 0 → exec .stepSendByte s = .next (s.faulted .stepSendByte .remainingUnderflow))

/-- R136, R139, R140: the acts RECEIVE_BYTE and PREPARE_STOP from a state that holds them. -/
def Obligations.ReceiveByteAndPrepareStopActs : Prop :=
  ∀ (s : State), s.shift = none →
    (s.EngineReady .receiveByte → exec .stepReceiveByte s = .next
      { s with asleep := false, shift := some .rx8, sigPend := false, pstate := .receiveStore }) ∧
    (∀ d k, s.EngineReady .prepareStop → s.live = some d → (s.desc d).kind = some k →
      ((k = .sendThenRestart ∨ k = .receiveThenRestart) → s.nackf = false →
        exec .stepPrepareStop s = .next
          { s with
            asleep := false
            shift := some (.prep false)
            sigPend := false
            event := true
            sigEn := false
            pstate := .start }) ∧
      (k ≠ .idle → k ≠ .reserved →
        (s.nackf = true ∨ (k ≠ .sendThenRestart ∧ k ≠ .receiveThenRestart)) →
        exec .stepPrepareStop s = .next
          { s with asleep := false, shift := some (.prep true), sigPend := false, pstate := .stop }) ∧
      ((k = .idle ∨ k = .reserved) →
        exec .stepPrepareStop s = .next (s.faulted .stepPrepareStop (.illFormedDescriptor .kind))))

/-- R137: RECEIVE_STORE stores the received byte at the cursor, advances the descriptor, and arms the master's
acknowledgement: NACK exactly when the byte brings `REM` to 0 and the kind does not suspend. A read of the cursor's address
then gives the byte, and every other address of `HMEM` reads as before. -/
def Obligations.ReceiveStoreStoresAndAcknowledges : Prop :=
  ∀ (s : State) (d : DescRef) (k : Kind) (dir : Dir) (r c : Half) (b : Byte), s.EngineReady .receiveStore →
    Memory.wf s.hmem = true → s.shift = none → s.live = some d → (s.desc d).rem = some r → r ≠ 0 →
    (s.desc d).kind = some k → dirOf k = some dir → s.ghostDir = some dir → s.sr = some b →
    (s.desc d).cur = some c → admits s.cfg c = true →
    ∃ m, exec .stepReceiveStore s = .next
        { s with
          asleep := false
          hmem := m
          descs := s.descs.set d.val { s.desc d with rem := some (r - 1), cur := some (c + 1) } d.isLt
          shift := some (.tx1 (decide (r = 1 ∧ k ≠ .sendThenSuspend ∧ k ≠ .receiveThenSuspend)))
          sigPend := false
          pstate := .rxAckSent } ∧
      Memory.read m c.toNat = b ∧ ∀ a, a ≠ c.toNat → Memory.read m a = Memory.read s.hmem a

/-- R137, R198, R199, R203, R227: a received byte that arrives with `REM = 0` underflows; an unwritten `REM`, `KIND`, `SR` or
`CUR` raises `UnwrittenRead`, in the order of the reads; an address that is not admitted faults. Nothing is stored. -/
def Obligations.ReceiveStoreFaults : Prop :=
  ∀ (s : State) (d : DescRef), s.EngineReady .receiveStore → s.live = some d →
    ((s.desc d).rem = none →
      exec .stepReceiveStore s = .next (s.faulted .stepReceiveStore (.unwrittenRead (.descField d .rem)))) ∧
    ((s.desc d).rem = some 0 →
      exec .stepReceiveStore s = .next (s.faulted .stepReceiveStore .remainingUnderflow)) ∧
    (∀ r, (s.desc d).rem = some r → r ≠ 0 →
      ((s.desc d).kind = none →
        exec .stepReceiveStore s = .next (s.faulted .stepReceiveStore (.unwrittenRead (.descField d .kind)))) ∧
      (∀ k dir, (s.desc d).kind = some k → dirOf k = some dir → s.ghostDir = some dir →
        (s.sr = none → exec .stepReceiveStore s = .next (s.faulted .stepReceiveStore (.unwrittenRead .sr))) ∧
        (∀ b, s.sr = some b →
          ((s.desc d).cur = none →
            exec .stepReceiveStore s = .next (s.faulted .stepReceiveStore (.unwrittenRead (.descField d .cur)))) ∧
          (∀ c, (s.desc d).cur = some c → admits s.cfg c = false →
            exec .stepReceiveStore s = .next (s.faulted .stepReceiveStore (.bufferNotAdmitted c))))))

/-- R141: STOP issues the stop condition, raises `EVENT`, disables signalling and goes back to START; the pending
completion, `BUSY` and every descriptor stay. Outside its bus condition it raises `BusConditionViolation(STOP)`. -/
def Obligations.StopActYields : Prop :=
  ∀ (s : State), s.EngineReady .stop →
    (s.buscond = .stopReady → exec .stepStop s = .next
      { s with
        asleep := false
        trace := s.trace ++ [.stop]
        buscond := .idle
        event := true
        sigEn := false
        pstate := .start }) ∧
    (s.buscond ≠ .stopReady → exec .stepStop s = .next (s.faulted .stepStop (.busConditionViolation .stop)))

/-- R143: an engine step that does not fault ends either with exactly one shift armed, from none in flight, or with
signalling disabled. -/
def Obligations.EngineStepEndsArmedOrYielded : Prop :=
  ∀ (s t : State) (i : Instr), i.stepState ≠ none → exec i s = .next t → t.faults = [] →
    (s.shift = none ∧ t.shift ≠ none ∧ t.sigPend = false) ∨ t.sigEn = false

/-- R28, R48, R146, R173: what no engine step changes: `BUSY`, `LIVE`, `RV`, `REFUSED`, `SR`, the parameters, every other
descriptor, and the live one's `ADDR`, `KIND` and `CONT`. An engine step raises `EVENT` only as it yields, and never
clears it. -/
def Obligations.EngineLeavesOwnershipAndDescriptors : Prop :=
  ∀ (s t : State) (i : Instr), i.stepState ≠ none → exec i s = .next t →
    t.busy = s.busy ∧ t.live = s.live ∧ t.rv = s.rv ∧ t.refused = s.refused ∧ t.sr = s.sr ∧ t.cfg = s.cfg ∧
    t.fgPos = s.fgPos ∧ t.agenda = s.agenda ∧ t.draws = s.draws ∧ t.drawCount = s.drawCount ∧
    (∀ d, (t.desc d).addr = (s.desc d).addr ∧ (t.desc d).kind = (s.desc d).kind ∧
      (t.desc d).cont = (s.desc d).cont) ∧
    (∀ d, s.live ≠ some d → t.desc d = s.desc d) ∧
    (t.event = s.event ∨ (t.event = true ∧ t.sigEn = false))

/-! ### The transaction interface and the ports (42_interface.md) -/

/-- R151, R152: `start`: NULL gives the error status and changes nothing else; a descriptor is recorded as live and
signalling enabled, unless the engine owns the live descriptor. -/
def Obligations.StartRecordsTheLiveDescriptor : Prop :=
  ∀ (s : State), s.ForegroundReady →
    exec (.start none) s = .next { s with rv := some 1 } ∧
    (∀ d, s.sigEn = false → exec (.start (some d)) s = .next { s with live := some d, sigEn := true, rv := some 0 }) ∧
    (∀ d, s.sigEn = true →
      exec (.start (some d)) s = .next (s.faulted (.start (some d)) (.ownershipViolation .start)))

/-- R153, R154: `resume` enables signalling, `force_stop` also sets `REM` to 0, both under either owner; both need a live
descriptor. -/
def Obligations.ResumeAndForceStopEnableSignalling : Prop :=
  ∀ (s : State), s.ForegroundReady →
    (s.live = none →
      exec .resume s = .next (s.faulted .resume .noLiveDescriptor) ∧
      exec .forceStop s = .next (s.faulted .forceStop .noLiveDescriptor)) ∧
    (∀ d, s.live = some d →
      exec .resume s = .next { s with sigEn := true } ∧
      exec .forceStop s = .next
        { s with descs := s.descs.set d.val { s.desc d with rem := some 0 } d.isLt, sigEn := true })

/-- R155, R32, R87: `get_error` returns the low four bits of `STATUS`, which are `ERR`; the word's other bits are `EVENT`,
`BUSY` and two zeros. -/
def Obligations.GetErrorMasksTheStatusWord : Prop :=
  ∀ (s : State), s.ForegroundReady →
    exec .getError s = .next { s with rv := some (s.err.setWidth 16) } ∧
    s.status.extractLsb' 0 4 = s.err ∧ s.status.getLsbD 4 = s.event ∧ s.status.getLsbD 5 = s.busy ∧
    s.status.extractLsb' 6 2 = 0#2

/-- R157, R83: DESC_READ returns the field zero-extended to 16 bits, a kind as its code, NULL as 0, under either owner; `⊥` raises
`UnwrittenRead`. -/
def Obligations.DescReadReturnsTheField : Prop :=
  ∀ (s : State) (d : DescRef), s.ForegroundReady →
    (∀ a, (s.desc d).addr = some a → exec (.descRead d .addr) s = .next { s with rv := some (a.setWidth 16) }) ∧
    (∀ r, (s.desc d).rem = some r → exec (.descRead d .rem) s = .next { s with rv := some r }) ∧
    (∀ k, (s.desc d).kind = some k →
      exec (.descRead d .kind) s = .next
        { s with
          rv := some (match k with
            | .idle => 0#16
            | .sendThenStop => 1#16
            | .receiveThenStop => 2#16
            | .sendThenSuspend => 3#16
            | .receiveThenSuspend => 4#16
            | .sendThenRestart => 5#16
            | .receiveThenRestart => 6#16
            | .reserved => 7#16) }) ∧
    (∀ c, (s.desc d).cur = some c → exec (.descRead d .cur) s = .next { s with rv := some c }) ∧
    ((s.desc d).cont = some .null → exec (.descRead d .cont) s = .next { s with rv := some 0 }) ∧
    (∀ c, (s.desc d).cont = some (.ref c) → exec (.descRead d .cont) s = .next { s with rv := some c }) ∧
    ((s.desc d).addr = none →
      exec (.descRead d .addr) s = .next (s.faulted (.descRead d .addr) (.unwrittenRead (.descField d .addr)))) ∧
    ((s.desc d).rem = none →
      exec (.descRead d .rem) s = .next (s.faulted (.descRead d .rem) (.unwrittenRead (.descField d .rem)))) ∧
    ((s.desc d).kind = none →
      exec (.descRead d .kind) s = .next (s.faulted (.descRead d .kind) (.unwrittenRead (.descField d .kind)))) ∧
    ((s.desc d).cur = none →
      exec (.descRead d .cur) s = .next (s.faulted (.descRead d .cur) (.unwrittenRead (.descField d .cur)))) ∧
    ((s.desc d).cont = none →
      exec (.descRead d .cont) s = .next (s.faulted (.descRead d .cont) (.unwrittenRead (.descField d .cont))))

/-- R158, R83: DESC_WRITE writes one field of one descriptor, a kind by its code, and faults on the live descriptor while the engine owns it. -/
def Obligations.DescWriteWritesOneField : Prop :=
  ∀ (s : State) (d : DescRef) (v : Half), s.ForegroundReady →
    (s.live = some d → s.sigEn = true → ∀ f,
      exec (.descWrite d f v) s = .next (s.faulted (.descWrite d f v) (.ownershipViolation .descWrite))) ∧
    (s.live ≠ some d ∨ s.sigEn = false →
      exec (.descWrite d .addr v) s = .next
        { s with descs := s.descs.set d.val { s.desc d with addr := some (v.extractLsb' 0 8) } d.isLt } ∧
      exec (.descWrite d .rem v) s = .next
        { s with descs := s.descs.set d.val { s.desc d with rem := some v } d.isLt } ∧
      (∀ k, v.extractLsb' 0 3 = (match k with
          | .idle => 0#3
          | .sendThenStop => 1#3
          | .receiveThenStop => 2#3
          | .sendThenSuspend => 3#3
          | .receiveThenSuspend => 4#3
          | .sendThenRestart => 5#3
          | .receiveThenRestart => 6#3
          | .reserved => 7#3) →
        exec (.descWrite d .kind v) s = .next
          { s with descs := s.descs.set d.val { s.desc d with kind := some k } d.isLt }) ∧
      exec (.descWrite d .cur v) s = .next
        { s with descs := s.descs.set d.val { s.desc d with cur := some v } d.isLt } ∧
      exec (.descWrite d .cont v) s = .next
        { s with
          descs := s.descs.set d.val { s.desc d with cont := some (if v = 0 then .null else .ref v) } d.isLt })

/-- R159, R160, R64, R199: MEM_READ returns the byte zero-extended, MEM_WRITE stores one byte and leaves every other
address as it was, both only where `admits` holds; elsewhere both raise `BufferNotAdmitted` and access nothing. -/
def Obligations.MemoryPortsReadAndWriteOneByte : Prop :=
  ∀ (s : State) (a : Half) (v : Byte), s.ForegroundReady → Memory.wf s.hmem = true →
    (admits s.cfg a = true →
      exec (.memRead a) s = .next { s with rv := some ((Memory.read s.hmem a.toNat).setWidth 16) } ∧
      ∃ m, exec (.memWrite a v) s = .next { s with hmem := m } ∧ Memory.read m a.toNat = v ∧
        ∀ x, x ≠ a.toNat → Memory.read m x = Memory.read s.hmem x) ∧
    (admits s.cfg a = false →
      exec (.memRead a) s = .next (s.faulted (.memRead a) (.bufferNotAdmitted a)) ∧
      exec (.memWrite a v) s = .next (s.faulted (.memWrite a v) (.bufferNotAdmitted a)))

/-! ### Ownership and events (43_ownership.md) -/

/-- R166 to R168: the busy flag is read into `RV`, set by `acquire` (which faults when it is set already) and cleared by
`release`. -/
def Obligations.BusyFlagOperations : Prop :=
  ∀ (s : State), s.ForegroundReady →
    exec .isBusy s = .next { s with rv := some (if s.busy then 1 else 0) } ∧
    (s.busy = false → exec .acquire s = .next { s with busy := true }) ∧
    (s.busy = true → exec .acquire s = .next (s.faulted .acquire .acquireWhileBusy)) ∧
    exec .release s = .next { s with busy := false }

/-- R169 to R171: the event flag is set, cleared, and read into `RV` without being cleared. -/
def Obligations.EventFlagOperations : Prop :=
  ∀ (s : State), s.ForegroundReady →
    exec .raiseEvent s = .next { s with event := true } ∧
    exec .clearEvent s = .next { s with event := false } ∧
    exec .checkEvent s = .next { s with rv := some (if s.event then 1 else 0) }

/-! ### The scheduler and the low-power wait (44_scheduler.md) -/

/-- R176, R177: one scheduler iteration: nothing without an event; with one, it is cleared first, and then a NULL
continuation releases `BUSY` and marks the live descriptor Idle (unless the engine owns it), and another is invoked with the
live descriptor. Where an invoked continuation stands is the model's own field, which a second invocation replaces (log entry
13). -/
def Obligations.SchedulerIterationDispatches : Prop :=
  ∀ (s : State), s.ForegroundReady →
    (s.event = false → exec .schedIter s = .next s) ∧
    (s.event = true → s.live = none → exec .schedIter s = .next (s.faulted .schedIter .noLiveDescriptor)) ∧
    (∀ d, s.event = true → s.live = some d →
      ((s.desc d).cont = none →
        exec .schedIter s = .next (s.faulted .schedIter (.unwrittenRead (.descField d .cont)))) ∧
      ((s.desc d).cont = some .null → s.sigEn = true →
        exec .schedIter s = .next (s.faulted .schedIter (.ownershipViolation .schedIter))) ∧
      ((s.desc d).cont = some .null → s.sigEn = false → exec .schedIter s = .next
        { s with
          event := false
          busy := false
          descs := s.descs.set d.val { s.desc d with kind := some .idle } d.isLt }) ∧
      (∀ c, (s.desc d).cont = some (.ref c) → exec .schedIter s = .next
        { s with event := false, fgPos := .continuation c d }))

/-- R178, R179: LPM_WAIT puts the foreground to sleep, except that an atomic idle check does not sleep on a pending event;
EXT_STIMULUS wakes it and is enabled only while it sleeps. -/
def Obligations.LowPowerWaitSleepsAndWakes : Prop :=
  ∀ (s : State),
    (s.ForegroundReady → (s.cfg.idleCheckAtomic = false ∨ s.event = false) →
      exec .lpmWait s = .next { s with asleep := true }) ∧
    (s.ForegroundReady → s.cfg.idleCheckAtomic = true → s.event = true → exec .lpmWait s = .next s) ∧
    (s.Running → s.asleep = true → exec .extStimulus s = .next { s with asleep := false }) ∧
    (s.Running → s.asleep = false → exec .extStimulus s = .fault .notAsleep)

/-- R43, R178, R214: while `ASLEEP = 1` no foreground operation has a step; only an engine step and EXT_STIMULUS wake the
foreground, so a completion alone does not; and every engine step that does not fault wakes it. -/
def Obligations.SleepingForegroundIsWokenByTheEngineOrAStimulus : Prop :=
  ∀ (s : State) (i : Instr), s.asleep = true →
    (s.Running → i.issuer = .foreground → exec i s = .fault .foregroundAsleep) ∧
    (∀ t, exec i s = .next t → t.asleep = false → i.stepState ≠ none ∨ i = .extStimulus) ∧
    (∀ t, exec i s = .next t → t.faults = [] → i.stepState ≠ none ∨ i = .extStimulus → t.asleep = false)

/-- R226: the lost wake-up. When the stop-yield runs just before `LPM_WAIT` and the idle check is not atomic, the foreground
sleeps with the event pending, and neither the engine nor the shifter has a step, which is a hang where no stimulus is to come (R240); with an atomic check
it does not sleep. -/
def Obligations.LostWakeUpNeedsANonAtomicIdleCheck : Prop :=
  ∀ (s : State), s.EngineReady .stop → s.shift = none → s.buscond = .stopReady →
    ∃ t u, exec .stepStop s = .next t ∧ exec .lpmWait t = .next u ∧ u.event = true ∧
      u.asleep = !s.cfg.idleCheckAtomic ∧
      (∀ i, i.stepState ≠ none → exec i u = .fault .engineNotEnabled) ∧
      exec .shiftComplete u = .fault .noShiftInFlight ∧
      (s.cfg.idleCheckAtomic = false → .environment ∉ s.agenda → u.Hung)

/-! ### Rules of the whole machine -/

/-- R196: a step that raises a fault is discarded whole: the state after it is the one before it plus one record, which
names the agent of the operation (R91) and its command word. -/
def Obligations.FaultingStepIsDiscardedWhole : Prop :=
  ∀ (s t : State) (i : Instr), exec i s = .next t → t.faults ≠ [] →
    ∃ f, t = { s with faults := [{ fault := f, agent := i.issuer, op := encode i }] }

/-- R173: the only writers of `BUSY` are `acquire`, `release` and the scheduler iteration. -/
def Obligations.OnlyTheForegroundWritesBusy : Prop :=
  ∀ (s t : State) (i : Instr), exec i s = .next t → t.busy ≠ s.busy →
    (i = .acquire ∧ t.busy = true) ∨ (i = .release ∧ t.busy = false) ∨ (i = .schedIter ∧ t.busy = false)

/-- R31, R192, R193: only the engine writes `ERR`, only on an acknowledgement failure, with NACK_ADDR for the address and
NACK_DATA for a data byte. -/
def Obligations.OnlyNacksWriteTheErrorCode : Prop :=
  ∀ (s t : State) (i : Instr), exec i s = .next t → t.err ≠ s.err →
    (i = .stepAddrAckCheck ∧ t.err = 1 ∧ t.nackf = true) ∨ (i = .stepDataAckCheck ∧ t.err = 2 ∧ t.nackf = true)

/-- R30, R146: `EVENT` is raised only by `raise_event` and by an engine step that disables signalling, and cleared only by
`clear_event` and the scheduler iteration. -/
def Obligations.EventIsRaisedOnlyAtYieldsOrByProgram : Prop :=
  ∀ (s t : State) (i : Instr), exec i s = .next t →
    (s.event = false → t.event = true → i = .raiseEvent ∨ (i.stepState ≠ none ∧ t.sigEn = false)) ∧
    (s.event = true → t.event = false → i = .clearEvent ∨ i = .schedIter)

/-- R37, R38, R101: `SIG_PEND` is cleared only with a shift armed from none in flight, and set only by a completion. -/
def Obligations.PendingIsClearedByArmingAndSetByCompletion : Prop :=
  ∀ (s t : State) (i : Instr), exec i s = .next t →
    (s.sigPend = true → t.sigPend = false → s.shift = none ∧ t.shift ≠ none) ∧
    (s.sigPend = false → t.sigPend = true → i = .shiftComplete ∧ t.shift = none)

/-- R21, R35, R36, R48, R50: no foreground operation changes `PSTATE`, `NACKF`, `ERR`, `SIG_PEND`, `SHIFT`, `SR`, `GHOST_DIR`,
`TRACE` or `BUSCOND`; the engine's other two registers, `LIVE` and `SIG_EN`, it changes only by `start`, `resume` and
`force_stop`. -/
def Obligations.ForegroundLeavesEngineAndBus : Prop :=
  ∀ (s t : State) (i : Instr), i.issuer = .foreground → exec i s = .next t →
    t.pstate = s.pstate ∧ t.nackf = s.nackf ∧ t.err = s.err ∧ t.sigPend = s.sigPend ∧ t.shift = s.shift ∧
    t.sr = s.sr ∧ t.ghostDir = s.ghostDir ∧ t.trace = s.trace ∧ t.buscond = s.buscond ∧ t.refused = s.refused ∧
    t.cfg = s.cfg ∧ t.agenda = s.agenda ∧ t.draws = s.draws ∧ t.drawCount = s.drawCount ∧
    (t.live ≠ s.live → ∃ d, i = .start (some d) ∧ t.live = some d) ∧
    (t.sigEn ≠ s.sigEn → t.sigEn = true ∧ ((∃ d, i = .start (some d)) ∨ i = .resume ∨ i = .forceStop))

/-- R47, R61, R64: the only operations that change a byte of `HMEM` are MEM_WRITE at its address and RECEIVE_STORE at the
live descriptor's cursor, and only at an admitted address. -/
def Obligations.OnlyTwoOperationsStoreToMemory : Prop :=
  ∀ (s t : State) (i : Instr) (x : Nat), exec i s = .next t → Memory.read t.hmem x ≠ Memory.read s.hmem x →
    ∃ a : Half, x = a.toNat ∧ admits s.cfg a = true ∧
      ((∃ v, i = .memWrite a v) ∨
        (i = .stepReceiveStore ∧ ∃ d, s.live = some d ∧ (s.desc d).cur = some a))

/-- R53, R220: the handoff of the descriptor. While the foreground owns it (`SIG_EN = 0`), no turn but the foreground's changes
a descriptor, a flag, the live reference or `HMEM`; while the engine owns it (`SIG_EN = 1`), no foreground operation but
`force_stop` changes the live descriptor. -/
def Obligations.DescriptorsChangeOnlyByTheirOwner : Prop :=
  (∀ (s t : State), step s = .next t → s.sigEn = false → (∀ w, s.agenda.head? ≠ some (.foreground w)) →
    t.descs = s.descs ∧ t.busy = s.busy ∧ t.event = s.event ∧ t.err = s.err ∧ t.live = s.live ∧ t.sigEn = false ∧
    t.hmem = s.hmem) ∧
  (∀ (s t : State) (i : Instr) (d : DescRef), exec i s = .next t → i.issuer = .foreground → i ≠ .forceStop →
    s.sigEn = true → s.live = some d → t.desc d = s.desc d)

/-- R8, R45: every step of the machine leaves the parameters alone and only appends to `TRACE`, and only the engine, the
shifter and a primitive append. -/
def Obligations.TraceOnlyGrowsAndParametersStay : Prop :=
  ∀ (s t : State), step s = .next t →
    t.cfg = s.cfg ∧ (∃ es, t.trace = s.trace ++ es) ∧ (∃ x, s.agenda = x :: t.agenda) ∧
    (t.trace ≠ s.trace →
      s.agenda.head? = some .engine ∨ s.agenda.head? = some .shifter ∨ ∃ w, s.agenda.head? = some (.primitive w))

/-! ### Invariants -/

/-- The invariants hold after reset, under any well-formed parameters and canonical launch memory. -/
def Obligations.ResetMeetsTheInvariants : Prop :=
  ∀ (cfg : Config) (m : Memory), cfg.wf = true → Memory.wf m = true →
    (State.resetWith cfg m).Inv ∧ (State.resetWith cfg m).BusInv

/-- R8, R25, R27, R33, R35, R44, R47, R51, R54, R192, R200: every step, whoever takes it, keeps the state's invariant. -/
def Obligations.EveryStepKeepsTheStateInvariant : Prop :=
  ∀ (s t : State), s.Inv → step s = .next t → t.Inv

/-- R51, R52, R84, R111: every step of the four agents keeps the protocol invariant, which ties `PSTATE` to the shift in
flight and to the bus condition. -/
def Obligations.EveryAgentStepKeepsTheProtocolInvariant : Prop :=
  ∀ (s t : State), s.BusInv → s.AgentTurn → step s = .next t → t.BusInv

/-- R52, R111, R133, R142, R200, R203, R205, R206, R208: under the protocol invariant no step of the four agents raises
`ShiftOverlap`, `BusConditionViolation` or `ReservedState`, none reads an unwritten `SR` or `GHOST_DIR`, and only RECEIVE_STORE
raises `RemainingUnderflow`; under the state invariant as well, no engine step raises `NoLiveDescriptor`. -/
def Obligations.UnreachableFaultsAreNeverRaised : Prop :=
  ∀ (s t : State) (r : FaultRecord), s.BusInv → s.AgentTurn → step s = .next t → r ∈ t.faults →
    (∀ op, r.fault ≠ .shiftOverlap op) ∧ (∀ ev, r.fault ≠ .busConditionViolation ev) ∧
    (∀ c, r.fault ≠ .reservedState c) ∧ r.fault ≠ .unwrittenRead .sr ∧ r.fault ≠ .unwrittenRead .ghostDir ∧
    (r.fault = .remainingUnderflow → r.op = encode .stepReceiveStore) ∧
    (s.Inv → r.agent = .engine → r.fault ≠ .noLiveDescriptor)

/-! ### Progress and whole transactions (R144, R145, R239) -/

/-- R116, R143, R239: under `BUS_COMPLETES`, with the completion signal served, a ThenStop transaction reaches its stop-yield,
whatever the foreground does meanwhile, unless a fault or a refusal ends the run first; it takes at most `2 REM + 4` engine
steps. With a well-formed descriptor, its addresses admitted and no foreground turn, the run has neither. The start may be a
repeated one, and its marker shift may still be in flight (R233). The schedule is the model's own (log entries 7 and 19). -/
def Obligations.ThenStopTransactionEndsWhenTheBusCompletes : Prop :=
  ∀ (s : State) (d : DescRef) (k : Kind) (r : Half), s.Running → s.BusInv → s.pstate = .start → s.sigEn = true →
    s.live = some d → (s.desc d).kind = some k → (k = .sendThenStop ∨ k = .receiveThenStop) → (s.desc d).rem = some r →
    (∀ w, .primitive w ∉ s.agenda) → s.BusCompletes → s.EngineServed →
    ∃ n t, Host.Core.run Sys2Proof.core n s = .next t ∧ (s.agenda.take n).count .engine ≤ 2 * r.toNat + 4 ∧
      (t.Running → t.StopYielded) ∧
      ((s.desc d).wellFormed = true → s.noHostTurn = true →
        (∃ c, (s.desc d).cur = some c ∧ ∀ j, j < r.toNat → admits s.cfg (c + BitVec.ofNat 16 j) = true) → t.Running)

/-- R129, R144, R145, R194: a NACK on the address ends any transaction, whatever its kind and with `REM` and `CUR` unchanged,
in 4 engine steps and 3 completions with a true stop and the error code NACK_ADDR. -/
def Obligations.AddressNackTransaction : Prop :=
  ∀ (s : State) (d : DescRef) (k : Kind) (dir : Dir) (a x y : Byte) (more : List Byte) (rest : List Turn),
    s.EngineReady .start → s.shift = none → (s.buscond = .idle ∨ s.buscond = .restartReady) → s.live = some d →
    (s.desc d).kind = some k → dirOf k = some dir → (s.desc d).addr = some a → a.getLsbD 0 = decide (dir = .r) →
    s.draws = x :: y :: more → y.getLsbD 0 = true → s.agenda = busTurns 3 ++ rest →
    ∃ t, Host.Core.run Sys2Proof.core 7 s = .next t ∧
      t.trace = s.trace ++
        [if s.buscond = .idle then .start else .rstart,
          .tx (if s.cfg.addrRwOnWire = .direction then a else a &&& 0xFE), .ackIn true, .prepStop, .stop] ∧
      t.err = 1 ∧ t.descs = s.descs ∧ t.hmem = s.hmem ∧ t.StopYielded ∧ t.busy = s.busy ∧ t.faults = [] ∧
      t.agenda = rest

/-- R144, R145 and §8 of the source: a SendThenStop transaction of `n` bytes whose acknowledgements are all positive takes
`2n + 4` engine steps and `2n + 3` completions, puts the bytes at the cursor on the bus in order, and ends in a stop-yield
with `REM = 0`, the cursor advanced by exactly `n` and no error written. The acknowledgements are the oracle's answers 1, 3,
…, `2n + 1`; the others are what `SR` holds after a byte the master sent, and are any (R113, R115). -/
def Obligations.SendThenStopTransaction : Prop :=
  ∀ (s : State) (d : DescRef) (a : Byte) (n : Nat) (c : Half) (cont : Option ContRef) (rest : List Turn),
    s.EngineReady .start → s.shift = none → (s.buscond = .idle ∨ s.buscond = .restartReady) → s.live = some d →
    n < 65536 →
    s.desc d =
      { addr := some a
        rem := some (BitVec.ofNat 16 n)
        kind := some .sendThenStop
        cur := some c
        cont := cont } →
    a.getLsbD 0 = false → (∀ k, k < n → admits s.cfg (c + BitVec.ofNat 16 k) = true) →
    (∀ k, k ≤ n → ∃ b, s.draws[2 * k + 1]? = some b ∧ b.getLsbD 0 = false) →
    s.agenda = busTurns (2 * n + 3) ++ rest →
    ∃ t, Host.Core.run Sys2Proof.core (4 * n + 7) s = .next t ∧
      t.trace = s.trace ++ [if s.buscond = .idle then .start else .rstart, .tx a, .ackIn false] ++
        sentEvents s.hmem c n ++ [.prepStop, .stop] ∧
      t.desc d =
        { addr := some a
          rem := some 0
          kind := some .sendThenStop
          cur := some (c + BitVec.ofNat 16 n)
          cont := cont } ∧
      t.err = s.err ∧ t.hmem = s.hmem ∧ t.StopYielded ∧ t.busy = s.busy ∧ t.faults = [] ∧ t.agenda = rest

/-- R137, R144, R145 and §8 of the source: a ReceiveThenStop transaction of `n` bytes whose address is acknowledged fills the
buffer at the cursor with the received bytes in order, sends a NACK on the last byte only, and ends in a stop-yield. -/
def Obligations.ReceiveThenStopTransaction : Prop :=
  ∀ (s : State) (d : DescRef) (a : Byte) (vs : List (Byte × Byte)) (c : Half) (cont : Option ContRef) (x y : Byte)
    (more : List Byte) (rest : List Turn),
    s.EngineReady .start → Memory.wf s.hmem = true → s.shift = none →
    (s.buscond = .idle ∨ s.buscond = .restartReady) → s.live = some d → vs.length < 65536 →
    s.desc d =
      { addr := some a
        rem := some (BitVec.ofNat 16 vs.length)
        kind := some .receiveThenStop
        cur := some c
        cont := cont } →
    a.getLsbD 0 = true → (∀ k, k < vs.length → admits s.cfg (c + BitVec.ofNat 16 k) = true) →
    y.getLsbD 0 = false → s.draws = x :: y :: receiveDraws vs ++ more →
    s.agenda = busTurns (2 * vs.length + 3) ++ rest →
    ∃ t, Host.Core.run Sys2Proof.core (4 * vs.length + 7) s = .next t ∧
      t.trace = s.trace ++
        [if s.buscond = .idle then .start else .rstart,
          .tx (if s.cfg.addrRwOnWire = .direction then a else a &&& 0xFE), .ackIn false] ++
        receivedEvents (vs.map Prod.fst) ++ [.prepStop, .stop] ∧
      t.desc d =
        { addr := some a
          rem := some 0
          kind := some .receiveThenStop
          cur := some (c + BitVec.ofNat 16 vs.length)
          cont := cont } ∧
      (∀ k v, vs[k]? = some v → Memory.read t.hmem (c + BitVec.ofNat 16 k).toNat = v.1) ∧
      (∀ m, (∀ k, k < vs.length → m ≠ (c + BitVec.ofNat 16 k).toNat) → Memory.read t.hmem m = Memory.read s.hmem m) ∧
      t.err = s.err ∧ t.StopYielded ∧ t.busy = s.busy ∧ t.faults = [] ∧ t.agenda = rest
end

