-- ==== Sys2Proof/Laws/Encoding.lean ====
section
/-! SUPPORT. The fields of a command word built by the encoder, and the words of the operand codes. -/

namespace Sys2Proof

/-- A field of the low part of a concatenation. -/
theorem extract_append_low {m n : Nat} (a : BitVec m) (b : BitVec n) (lo len : Nat) (h : lo + len ≤ n) :
    (a ++ b).extractLsb' lo len = b.extractLsb' lo len := by
  apply BitVec.eq_of_getLsbD_eq
  intro k hk
  have : lo + k < n := by omega
  simp [BitVec.getLsbD_extractLsb', BitVec.getLsbD_append, this]

/-- A field of the high part of a concatenation. -/
theorem extract_append_high {m n : Nat} (a : BitVec m) (b : BitVec n) (lo len : Nat) (h : n ≤ lo) :
    (a ++ b).extractLsb' lo len = a.extractLsb' (lo - n) len := by
  apply BitVec.eq_of_getLsbD_eq
  intro k hk
  have h1 : ¬ lo + k < n := by omega
  have h2 : lo + k - n = lo - n + k := by omega
  simp [BitVec.getLsbD_extractLsb', BitVec.getLsbD_append, h1, h2]

/-- The whole of a bit vector as a field. -/
@[simp] theorem extract_self {n : Nat} (a : BitVec n) : a.extractLsb' 0 n = a := by
  apply BitVec.eq_of_getLsbD_eq
  intro k hk
  simp [hk]

/-- A field of zeros. -/
@[simp] theorem extract_zero (n lo len : Nat) : (0#n).extractLsb' lo len = 0#len := by
  apply BitVec.eq_of_getLsbD_eq
  intro k hk
  simp

/-- The operation byte of an encoded word. -/
@[simp] theorem opField_wordOf (op : Byte) (x : BitVec 24) : opField (wordOf op x) = op :=
  (extract_append_high op x 24 8 (Nat.le_refl _)).trans (extract_self op)

/-- A field below the operation byte is a field of the operands. -/
theorem extract_wordOf (op : Byte) (x : BitVec 24) (lo len : Nat) (h : lo + len ≤ 24) :
    (wordOf op x).extractLsb' lo len = x.extractLsb' lo len :=
  extract_append_low op x lo len h

/-! ### The fields of each format's words (R89) -/

section Formats

variable (op : Byte)

theorem lowZero_formatN : lowZero 24 (wordOf op 0#24) = true := by
  simp only [lowZero, decide_eq_true_eq]
  exact (extract_wordOf op 0#24 0 24 (by decide)).trans (extract_self _)

theorem bField_formatB (b : Byte) : bField (wordOf op (0#16 ++ b)) = b :=
  (extract_wordOf op _ 0 8 (by decide)).trans ((extract_append_low 0#16 b 0 8 (by decide)).trans (extract_self b))

theorem mbz_formatB (b : Byte) : (wordOf op (0#16 ++ b)).extractLsb' 8 16 = 0#16 :=
  (extract_wordOf op _ 8 16 (by decide)).trans ((extract_append_high 0#16 b 8 16 (by decide)).trans (extract_self _))

theorem dField_formatD (d : BitVec 4) : dField (wordOf op (d ++ 0#20)) = d :=
  (extract_wordOf op _ 20 4 (by decide)).trans ((extract_append_high d 0#20 20 4 (by decide)).trans (extract_self d))

theorem lowZero_formatD (d : BitVec 4) : lowZero 20 (wordOf op (d ++ 0#20)) = true := by
  simp only [lowZero, decide_eq_true_eq]
  exact (extract_wordOf op _ 0 20 (by decide)).trans
    ((extract_append_low d 0#20 0 20 (by decide)).trans (extract_self _))

theorem dField_formatDFV (d f : BitVec 4) (v : Half) : dField (wordOf op (d ++ f ++ v)) = d :=
  (extract_wordOf op _ 20 4 (by decide)).trans
    ((extract_append_high (d ++ f) v 20 4 (by decide)).trans
      ((extract_append_high d f 4 4 (by decide)).trans (extract_self d)))

theorem fField_formatDFV (d f : BitVec 4) (v : Half) : fField (wordOf op (d ++ f ++ v)) = f :=
  (extract_wordOf op _ 16 4 (by decide)).trans
    ((extract_append_high (d ++ f) v 16 4 (by decide)).trans
      ((extract_append_low d f 0 4 (by decide)).trans (extract_self f)))

theorem lowField_formatDFV (d f : BitVec 4) (v : Half) : lowField (wordOf op (d ++ f ++ v)) = v :=
  (extract_wordOf op _ 0 16 (by decide)).trans
    ((extract_append_low (d ++ f) v 0 16 (by decide)).trans (extract_self v))

theorem lowZero_formatDF (d f : BitVec 4) : lowZero 16 (wordOf op (d ++ f ++ 0#16)) = true := by
  simp only [lowZero, decide_eq_true_eq]
  exact lowField_formatDFV op d f 0#16

theorem vByteField_formatMAV (v : Byte) (a : Half) : vByteField (wordOf op (v ++ a)) = v :=
  (extract_wordOf op _ 16 8 (by decide)).trans ((extract_append_high v a 16 8 (by decide)).trans (extract_self v))

theorem lowField_formatMAV (v : Byte) (a : Half) : lowField (wordOf op (v ++ a)) = a :=
  (extract_wordOf op _ 0 16 (by decide)).trans ((extract_append_low v a 0 16 (by decide)).trans (extract_self a))

/-- A word is its operation byte above its operands. -/
theorem wordOf_fields (w : Word) : wordOf (opField w) (w.extractLsb' 0 24) = w := by
  apply BitVec.eq_of_getLsbD_eq
  intro k hk
  unfold wordOf opField
  rw [show (BitVec.extractLsb' 24 8 w ++ BitVec.extractLsb' 0 24 w : Word).getLsbD k = _ from
    BitVec.getLsbD_append ..]
  by_cases h : k < 24
  · simp [h]
  · have h8 : k - 24 < 8 := by omega
    have h24 : 24 + (k - 24) = k := by omega
    simp [h, h8, h24]

end Formats

/-! ### The operand codes -/

theorem Kind.ofCode_code (k : Kind) : Kind.ofCode k.code = k := by cases k <;> decide

theorem Kind.code_ofCode (c : BitVec 3) : (Kind.ofCode c).code = c := by revert c; decide

theorem Field.ofSelector_selector (f : Field) : Field.ofSelector f.selector = some f := by cases f <;> decide

theorem Field.selector_ofSelector {c : BitVec 4} {f : Field} (h : Field.ofSelector c = some f) : f.selector = c := by
  revert h; revert f; revert c; decide

theorem descOf_descBits {cfg : Config} {d : DescRef} (h : descExists cfg d = true) :
    descOf cfg (descBits (some d)) = .ok d := by
  have hd : (descBits (some d)).toNat = d.val := by
    have := d.isLt
    simp [descBits]; omega
  simp only [descExists, decide_eq_true_eq] at h
  have hlt := d.isLt
  simp [descOf, hd, h]

theorem descBits_ne_null (d : DescRef) : descBits (some d) ≠ 15#4 := by
  revert d; decide

/-- The two spellings of R90's value check agree. -/
theorem valueFits_eq_admitsValue (cfg : Config) (f : Field) (v : Half) :
    valueFits cfg f v = Field.admitsValue cfg f v := by
  have hv := v.isLt
  cases f with
  | rem | cur | cont => rfl
  | addr =>
    simp only [valueFits, Field.admitsValue, decide_eq_decide]
    rw [← BitVec.toNat_inj]
    simp only [BitVec.extractLsb'_toNat, Nat.shiftRight_eq_div_pow, BitVec.toNat_ofNat]
    omega
  | kind =>
    rw [Bool.eq_iff_iff]
    simp only [valueFits, Field.admitsValue, Bool.and_eq_true, decide_eq_true_eq, ne_eq]
    rw [← BitVec.toNat_inj, ← BitVec.toNat_inj]
    simp only [BitVec.extractLsb'_toNat, Nat.shiftRight_eq_div_pow, BitVec.toNat_ofNat]
    omega

/-! ### What a format that accepts a word says about it -/

theorem formatN_ok {w : Word} {i j : Instr} (h : formatN w i = .ok j) : i = j ∧ w.extractLsb' 0 24 = 0#24 := by
  unfold formatN lowZero at h
  split at h
  · rename_i hz
    cases h
    exact ⟨rfl, of_decide_eq_true hz⟩
  · cases h

/-- The operands of a word split at bit `k`. -/
theorem operands_split (w : Word) (k m : Nat) (h : m + k = 24) :
    w.extractLsb' 0 24 = (w.extractLsb' k m ++ w.extractLsb' 0 k).cast h := by
  apply BitVec.eq_of_getLsbD_eq
  intro j hj
  simp only [BitVec.getLsbD_cast, BitVec.getLsbD_append, BitVec.getLsbD_extractLsb']
  by_cases hk : j < k
  · simp [hk, hj]
  · simp [hk, hj, show k + (j - k) = j by omega, show j - k < m by omega]

theorem descOf_ok {cfg : Config} {d : BitVec 4} {x : DescRef} (h : descOf cfg d = .ok x) :
    descBits (some x) = d ∧ descExists cfg x = true := by
  unfold descOf at h
  split at h
  · split at h
    · rename_i hn
      cases h
      exact ⟨by simp [descBits], by simpa [descExists] using hn⟩
    · cases h
  · cases h

theorem fieldOf_ok {c : BitVec 4} {f : Field} (h : fieldOf c = .ok f) : f.selector = c := by
  unfold fieldOf at h
  split at h
  · cases h
    exact Field.selector_ofSelector ‹_›
  · cases h

/-- Every engine step's word decodes to it (R91: `OP = 0x40 | PSTATE`). -/
theorem decode_stepWord (cfg : Config) {p : PState} {i : Instr} (h : p.stepInstr = some i) :
    decode cfg (stepWord p) = .ok i := by
  cases p <;> simp only [PState.stepInstr, Option.some.injEq, reduceCtorEq] at h <;> subst h <;> rfl

/-! ### The decoder at each listed operation byte (R91) -/

section Rows

variable (cfg : Config) {w : Word}

theorem decode_op_00 (h : opField w = 0x00#8) : decode cfg w = formatN w .issueStart := by
  rw [decode, h]; rfl
theorem decode_op_01 (h : opField w = 0x01#8) : decode cfg w = formatB w .sendByte := by
  rw [decode, h]; rfl
theorem decode_op_02 (h : opField w = 0x02#8) : decode cfg w = formatN w .receiveByte := by
  rw [decode, h]; rfl
theorem decode_op_03 (h : opField w = 0x03#8) : decode cfg w = formatN w .readReceivedByte := by
  rw [decode, h]; rfl
theorem decode_op_04 (h : opField w = 0x04#8) : decode cfg w = formatN w (.prepareStopOrRestart false) := by
  rw [decode, h]; rfl
theorem decode_op_05 (h : opField w = 0x05#8) : decode cfg w = formatN w (.prepareStopOrRestart true) := by
  rw [decode, h]; rfl
theorem decode_op_06 (h : opField w = 0x06#8) : decode cfg w = formatN w .issueStop := by
  rw [decode, h]; rfl
theorem decode_op_07 (h : opField w = 0x07#8) : decode cfg w = formatN w .prepareAckPhase := by
  rw [decode, h]; rfl
theorem decode_op_08 (h : opField w = 0x08#8) : decode cfg w = formatN w .readAckBit := by
  rw [decode, h]; rfl
theorem decode_op_0A (h : opField w = 0x0A#8) : decode cfg w = formatN w (.sendAckBit false) := by
  rw [decode, h]; rfl
theorem decode_op_0B (h : opField w = 0x0B#8) : decode cfg w = formatN w (.sendAckBit true) := by
  rw [decode, h]; rfl
theorem decode_op_10 (h : opField w = 0x10#8) : decode cfg w = formatD cfg w .start := by
  rw [decode, h]; rfl
theorem decode_op_11 (h : opField w = 0x11#8) : decode cfg w = formatN w .resume := by
  rw [decode, h]; rfl
theorem decode_op_12 (h : opField w = 0x12#8) : decode cfg w = formatN w .forceStop := by
  rw [decode, h]; rfl
theorem decode_op_13 (h : opField w = 0x13#8) : decode cfg w = formatN w .getError := by
  rw [decode, h]; rfl
theorem decode_op_20 (h : opField w = 0x20#8) : decode cfg w = formatN w .isBusy := by
  rw [decode, h]; rfl
theorem decode_op_21 (h : opField w = 0x21#8) : decode cfg w = formatN w .acquire := by
  rw [decode, h]; rfl
theorem decode_op_22 (h : opField w = 0x22#8) : decode cfg w = formatN w .release := by
  rw [decode, h]; rfl
theorem decode_op_23 (h : opField w = 0x23#8) : decode cfg w = formatN w .raiseEvent := by
  rw [decode, h]; rfl
theorem decode_op_24 (h : opField w = 0x24#8) : decode cfg w = formatN w .clearEvent := by
  rw [decode, h]; rfl
theorem decode_op_25 (h : opField w = 0x25#8) : decode cfg w = formatN w .checkEvent := by
  rw [decode, h]; rfl
theorem decode_op_30 (h : opField w = 0x30#8) : decode cfg w = formatDF cfg w .descRead := by
  rw [decode, h]; rfl
theorem decode_op_31 (h : opField w = 0x31#8) : decode cfg w = formatDFV cfg w .descWrite := by
  rw [decode, h]; rfl
theorem decode_op_32 (h : opField w = 0x32#8) : decode cfg w = formatMA w .memRead := by
  rw [decode, h]; rfl
theorem decode_op_33 (h : opField w = 0x33#8) : decode cfg w = formatMAV w .memWrite := by
  rw [decode, h]; rfl
theorem decode_op_40 (h : opField w = 0x40#8) : decode cfg w = formatN w .stepStart := by
  rw [decode, h]; rfl
theorem decode_op_41 (h : opField w = 0x41#8) : decode cfg w = formatN w .stepAddrAckPrep := by
  rw [decode, h]; rfl
theorem decode_op_42 (h : opField w = 0x42#8) : decode cfg w = formatN w .stepAddrAckCheck := by
  rw [decode, h]; rfl
theorem decode_op_43 (h : opField w = 0x43#8) : decode cfg w = formatN w .stepSendByte := by
  rw [decode, h]; rfl
theorem decode_op_44 (h : opField w = 0x44#8) : decode cfg w = formatN w .stepDataAckPrep := by
  rw [decode, h]; rfl
theorem decode_op_45 (h : opField w = 0x45#8) : decode cfg w = formatN w .stepDataAckCheck := by
  rw [decode, h]; rfl
theorem decode_op_46 (h : opField w = 0x46#8) : decode cfg w = formatN w .stepReceiveByte := by
  rw [decode, h]; rfl
theorem decode_op_47 (h : opField w = 0x47#8) : decode cfg w = formatN w .stepReceiveStore := by
  rw [decode, h]; rfl
theorem decode_op_48 (h : opField w = 0x48#8) : decode cfg w = formatN w .stepRxAckSent := by
  rw [decode, h]; rfl
theorem decode_op_49 (h : opField w = 0x49#8) : decode cfg w = formatN w .stepPrepareStop := by
  rw [decode, h]; rfl
theorem decode_op_4A (h : opField w = 0x4A#8) : decode cfg w = formatN w .stepStop := by
  rw [decode, h]; rfl
theorem decode_op_50 (h : opField w = 0x50#8) : decode cfg w = formatN w .shiftComplete := by
  rw [decode, h]; rfl
theorem decode_op_60 (h : opField w = 0x60#8) : decode cfg w = formatN w .schedIter := by
  rw [decode, h]; rfl
theorem decode_op_61 (h : opField w = 0x61#8) : decode cfg w = formatN w .lpmWait := by
  rw [decode, h]; rfl
theorem decode_op_70 (h : opField w = 0x70#8) : decode cfg w = formatN w .extStimulus := by
  rw [decode, h]; rfl

end Rows

end Sys2Proof
end

