-- ==== Sys2Proof/Laws/Memory.lean ====
section
/-! SUPPORT. The laws of `HMEM`: a read after a write, and every write keeps the canonical form. -/

namespace Sys2Proof.Machine

@[simp] theorem Memory.read_nil (a : Nat) : Memory.read [] a = Config.launchByte := rfl

/-- Below the least listed address, memory reads as the launch contents. -/
theorem Memory.read_below {m : Memory} {lo a : Nat} (h : Memory.wfFrom lo m = true) (ha : a < lo) :
    Memory.read m a = Config.launchByte := by
  induction m generalizing lo with
  | nil => rfl
  | cons c rest ih =>
    obtain ⟨b, v⟩ := c
    simp only [Memory.wfFrom, Bool.and_eq_true, decide_eq_true_eq] at h
    have hne : a ≠ b := by omega
    simp only [Memory.read, hne, if_false]
    exact ih h.2 (by omega)

theorem Memory.wfFrom_mono {m : Memory} {lo lo' : Nat} (h : Memory.wfFrom lo m = true) (hl : lo' ≤ lo) :
    Memory.wfFrom lo' m = true := by
  cases m with
  | nil => rfl
  | cons c rest =>
    obtain ⟨b, v⟩ := c
    simp only [Memory.wfFrom, Bool.and_eq_true, decide_eq_true_eq] at h ⊢
    exact ⟨⟨⟨by omega, h.1.1.2⟩, h.1.2⟩, h.2⟩

theorem Memory.cell_wfFrom {a : Nat} {v : Byte} {rest : Memory} {lo : Nat} (hlo : lo ≤ a) (ha : a < 65536)
    (h : Memory.wfFrom (a + 1) rest = true) : Memory.wfFrom lo (Memory.cell a v rest) = true := by
  unfold Memory.cell
  split
  · exact Memory.wfFrom_mono h (by omega)
  · rename_i hv
    simp [Memory.wfFrom, hlo, ha, hv, h]

theorem Memory.write_wfFrom {m : Memory} {a : Nat} {v : Byte} {lo : Nat} (h : Memory.wfFrom lo m = true)
    (hlo : lo ≤ a) (ha : a < 65536) : Memory.wfFrom lo (Memory.write m a v) = true := by
  induction m generalizing lo with
  | nil => exact Memory.cell_wfFrom hlo ha rfl
  | cons c rest ih =>
    obtain ⟨b, u⟩ := c
    have h0 := h
    simp only [Memory.wfFrom, Bool.and_eq_true, decide_eq_true_eq] at h
    obtain ⟨⟨⟨hb, hb2⟩, hu⟩, hr⟩ := h
    unfold Memory.write
    split
    · rename_i hab
      refine Memory.cell_wfFrom hlo ha ?_
      simp only [Memory.wfFrom, Bool.and_eq_true, decide_eq_true_eq]
      exact ⟨⟨⟨by omega, hb2⟩, hu⟩, hr⟩
    · split
      · rename_i hab
        subst hab
        exact Memory.cell_wfFrom hlo ha hr
      · simp only [Memory.wfFrom, Bool.and_eq_true, decide_eq_true_eq]
        exact ⟨⟨⟨hb, hb2⟩, hu⟩, ih hr (by omega)⟩

/-- R47: a write keeps the canonical form of `HMEM`. -/
theorem Memory.write_wf {m : Memory} {a : Nat} {v : Byte} (h : Memory.wf m = true) (ha : a < 65536) :
    Memory.wf (Memory.write m a v) = true :=
  Memory.write_wfFrom h (Nat.zero_le _) ha

theorem Memory.read_cell_same {a : Nat} {v : Byte} {rest : Memory} (h : Memory.wfFrom (a + 1) rest = true) :
    Memory.read (Memory.cell a v rest) a = v := by
  unfold Memory.cell
  split
  · rename_i hv
    rw [Memory.read_below h (by omega), hv]
  · simp [Memory.read]

theorem Memory.read_cell_ne {a b : Nat} {v : Byte} {rest : Memory} (h : b ≠ a) :
    Memory.read (Memory.cell a v rest) b = Memory.read rest b := by
  unfold Memory.cell
  split
  · rfl
  · simp [Memory.read, h]

theorem Memory.read_write_same_from {m : Memory} {a : Nat} {v : Byte} {lo : Nat} (h : Memory.wfFrom lo m = true)
    : Memory.read (Memory.write m a v) a = v := by
  induction m generalizing lo with
  | nil => exact Memory.read_cell_same rfl
  | cons c rest ih =>
    obtain ⟨b, u⟩ := c
    have h0 := h
    simp only [Memory.wfFrom, Bool.and_eq_true, decide_eq_true_eq] at h
    obtain ⟨⟨⟨hb, hb2⟩, hu⟩, hr⟩ := h
    unfold Memory.write
    split
    · rename_i hab
      refine Memory.read_cell_same ?_
      simp only [Memory.wfFrom, Bool.and_eq_true, decide_eq_true_eq]
      exact ⟨⟨⟨by omega, hb2⟩, hu⟩, hr⟩
    · split
      · rename_i hab
        subst hab
        exact Memory.read_cell_same hr
      · rename_i hab
        simp only [Memory.read, hab, if_false]
        exact ih hr

/-- A read of the address written gives the byte written. -/
theorem Memory.read_write_same {m : Memory} {a : Nat} {v : Byte} (h : Memory.wf m = true) :
    Memory.read (Memory.write m a v) a = v :=
  Memory.read_write_same_from h

/-- A write leaves every other address alone. -/
theorem Memory.read_write_ne (m : Memory) {a b : Nat} (v : Byte) (h : b ≠ a) :
    Memory.read (Memory.write m a v) b = Memory.read m b := by
  induction m with
  | nil => simp [Memory.write, Memory.read_cell_ne h]
  | cons c rest ih =>
    obtain ⟨k, u⟩ := c
    unfold Memory.write
    split
    · exact Memory.read_cell_ne h
    · split
      · rename_i hak
        subst hak
        rw [Memory.read_cell_ne h]
        simp [Memory.read, h]
      · simp only [Memory.read, ih]

end Sys2Proof.Machine
end

