-- ==== Sys2Proof/Laws/State.lean ====
section
/-! SUPPORT. One lemma per field per update of the state, and the reads of descriptor slots after one. -/

namespace Sys2Proof.Machine

/-! ### setDesc -/

@[simp] theorem setDesc_cfg (s : State) (d : DescRef) (x : Desc) : (s.setDesc d x).cfg = s.cfg := rfl
@[simp] theorem setDesc_descs (s : State) (d : DescRef) (x : Desc) : (s.setDesc d x).descs = s.descs.set d.val x d.isLt := rfl
@[simp] theorem setDesc_busy (s : State) (d : DescRef) (x : Desc) : (s.setDesc d x).busy = s.busy := rfl
@[simp] theorem setDesc_event (s : State) (d : DescRef) (x : Desc) : (s.setDesc d x).event = s.event := rfl
@[simp] theorem setDesc_err (s : State) (d : DescRef) (x : Desc) : (s.setDesc d x).err = s.err := rfl
@[simp] theorem setDesc_pstate (s : State) (d : DescRef) (x : Desc) : (s.setDesc d x).pstate = s.pstate := rfl
@[simp] theorem setDesc_nackf (s : State) (d : DescRef) (x : Desc) : (s.setDesc d x).nackf = s.nackf := rfl
@[simp] theorem setDesc_live (s : State) (d : DescRef) (x : Desc) : (s.setDesc d x).live = s.live := rfl
@[simp] theorem setDesc_sigEn (s : State) (d : DescRef) (x : Desc) : (s.setDesc d x).sigEn = s.sigEn := rfl
@[simp] theorem setDesc_sigPend (s : State) (d : DescRef) (x : Desc) : (s.setDesc d x).sigPend = s.sigPend := rfl
@[simp] theorem setDesc_shift (s : State) (d : DescRef) (x : Desc) : (s.setDesc d x).shift = s.shift := rfl
@[simp] theorem setDesc_sr (s : State) (d : DescRef) (x : Desc) : (s.setDesc d x).sr = s.sr := rfl
@[simp] theorem setDesc_ghostDir (s : State) (d : DescRef) (x : Desc) : (s.setDesc d x).ghostDir = s.ghostDir := rfl
@[simp] theorem setDesc_rv (s : State) (d : DescRef) (x : Desc) : (s.setDesc d x).rv = s.rv := rfl
@[simp] theorem setDesc_asleep (s : State) (d : DescRef) (x : Desc) : (s.setDesc d x).asleep = s.asleep := rfl
@[simp] theorem setDesc_faults (s : State) (d : DescRef) (x : Desc) : (s.setDesc d x).faults = s.faults := rfl
@[simp] theorem setDesc_trace (s : State) (d : DescRef) (x : Desc) : (s.setDesc d x).trace = s.trace := rfl
@[simp] theorem setDesc_buscond (s : State) (d : DescRef) (x : Desc) : (s.setDesc d x).buscond = s.buscond := rfl
@[simp] theorem setDesc_hmem (s : State) (d : DescRef) (x : Desc) : (s.setDesc d x).hmem = s.hmem := rfl
@[simp] theorem setDesc_refused (s : State) (d : DescRef) (x : Desc) : (s.setDesc d x).refused = s.refused := rfl
@[simp] theorem setDesc_fgPos (s : State) (d : DescRef) (x : Desc) : (s.setDesc d x).fgPos = s.fgPos := rfl
@[simp] theorem setDesc_agenda (s : State) (d : DescRef) (x : Desc) : (s.setDesc d x).agenda = s.agenda := rfl
@[simp] theorem setDesc_draws (s : State) (d : DescRef) (x : Desc) : (s.setDesc d x).draws = s.draws := rfl
@[simp] theorem setDesc_drawCount (s : State) (d : DescRef) (x : Desc) : (s.setDesc d x).drawCount = s.drawCount := rfl

theorem setDesc_desc (s : State) (d : DescRef) (x : Desc) (k : DescRef) :
    (s.setDesc d x).desc k = if k = d then x else s.desc k := by
  unfold State.desc State.setDesc
  by_cases h : k = d
  · subst h; simp
  · have h' : d.val ≠ k.val := fun e => h (Fin.ext e.symm)
    simp [h, h']

@[simp] theorem setDesc_desc_same (s : State) (d : DescRef) (x : Desc) : (s.setDesc d x).desc d = x := by
  simp [setDesc_desc]

theorem setDesc_desc_ne (s : State) (d : DescRef) (x : Desc) (k : DescRef) (h : k ≠ d) :
    (s.setDesc d x).desc k = s.desc k := by simp [setDesc_desc, h]

/-! ### setBusy -/

@[simp] theorem setBusy_cfg (s : State) (b : Bool) : (s.setBusy b).cfg = s.cfg := rfl
@[simp] theorem setBusy_descs (s : State) (b : Bool) : (s.setBusy b).descs = s.descs := rfl
@[simp] theorem setBusy_busy (s : State) (b : Bool) : (s.setBusy b).busy = b := rfl
@[simp] theorem setBusy_event (s : State) (b : Bool) : (s.setBusy b).event = s.event := rfl
@[simp] theorem setBusy_err (s : State) (b : Bool) : (s.setBusy b).err = s.err := rfl
@[simp] theorem setBusy_pstate (s : State) (b : Bool) : (s.setBusy b).pstate = s.pstate := rfl
@[simp] theorem setBusy_nackf (s : State) (b : Bool) : (s.setBusy b).nackf = s.nackf := rfl
@[simp] theorem setBusy_live (s : State) (b : Bool) : (s.setBusy b).live = s.live := rfl
@[simp] theorem setBusy_sigEn (s : State) (b : Bool) : (s.setBusy b).sigEn = s.sigEn := rfl
@[simp] theorem setBusy_sigPend (s : State) (b : Bool) : (s.setBusy b).sigPend = s.sigPend := rfl
@[simp] theorem setBusy_shift (s : State) (b : Bool) : (s.setBusy b).shift = s.shift := rfl
@[simp] theorem setBusy_sr (s : State) (b : Bool) : (s.setBusy b).sr = s.sr := rfl
@[simp] theorem setBusy_ghostDir (s : State) (b : Bool) : (s.setBusy b).ghostDir = s.ghostDir := rfl
@[simp] theorem setBusy_rv (s : State) (b : Bool) : (s.setBusy b).rv = s.rv := rfl
@[simp] theorem setBusy_asleep (s : State) (b : Bool) : (s.setBusy b).asleep = s.asleep := rfl
@[simp] theorem setBusy_faults (s : State) (b : Bool) : (s.setBusy b).faults = s.faults := rfl
@[simp] theorem setBusy_trace (s : State) (b : Bool) : (s.setBusy b).trace = s.trace := rfl
@[simp] theorem setBusy_buscond (s : State) (b : Bool) : (s.setBusy b).buscond = s.buscond := rfl
@[simp] theorem setBusy_hmem (s : State) (b : Bool) : (s.setBusy b).hmem = s.hmem := rfl
@[simp] theorem setBusy_refused (s : State) (b : Bool) : (s.setBusy b).refused = s.refused := rfl
@[simp] theorem setBusy_fgPos (s : State) (b : Bool) : (s.setBusy b).fgPos = s.fgPos := rfl
@[simp] theorem setBusy_agenda (s : State) (b : Bool) : (s.setBusy b).agenda = s.agenda := rfl
@[simp] theorem setBusy_draws (s : State) (b : Bool) : (s.setBusy b).draws = s.draws := rfl
@[simp] theorem setBusy_drawCount (s : State) (b : Bool) : (s.setBusy b).drawCount = s.drawCount := rfl
@[simp] theorem setBusy_desc (s : State) (b : Bool) (k : DescRef) : (s.setBusy b).desc k = s.desc k := rfl

/-! ### setEvent -/

@[simp] theorem setEvent_cfg (s : State) (b : Bool) : (s.setEvent b).cfg = s.cfg := rfl
@[simp] theorem setEvent_descs (s : State) (b : Bool) : (s.setEvent b).descs = s.descs := rfl
@[simp] theorem setEvent_busy (s : State) (b : Bool) : (s.setEvent b).busy = s.busy := rfl
@[simp] theorem setEvent_event (s : State) (b : Bool) : (s.setEvent b).event = b := rfl
@[simp] theorem setEvent_err (s : State) (b : Bool) : (s.setEvent b).err = s.err := rfl
@[simp] theorem setEvent_pstate (s : State) (b : Bool) : (s.setEvent b).pstate = s.pstate := rfl
@[simp] theorem setEvent_nackf (s : State) (b : Bool) : (s.setEvent b).nackf = s.nackf := rfl
@[simp] theorem setEvent_live (s : State) (b : Bool) : (s.setEvent b).live = s.live := rfl
@[simp] theorem setEvent_sigEn (s : State) (b : Bool) : (s.setEvent b).sigEn = s.sigEn := rfl
@[simp] theorem setEvent_sigPend (s : State) (b : Bool) : (s.setEvent b).sigPend = s.sigPend := rfl
@[simp] theorem setEvent_shift (s : State) (b : Bool) : (s.setEvent b).shift = s.shift := rfl
@[simp] theorem setEvent_sr (s : State) (b : Bool) : (s.setEvent b).sr = s.sr := rfl
@[simp] theorem setEvent_ghostDir (s : State) (b : Bool) : (s.setEvent b).ghostDir = s.ghostDir := rfl
@[simp] theorem setEvent_rv (s : State) (b : Bool) : (s.setEvent b).rv = s.rv := rfl
@[simp] theorem setEvent_asleep (s : State) (b : Bool) : (s.setEvent b).asleep = s.asleep := rfl
@[simp] theorem setEvent_faults (s : State) (b : Bool) : (s.setEvent b).faults = s.faults := rfl
@[simp] theorem setEvent_trace (s : State) (b : Bool) : (s.setEvent b).trace = s.trace := rfl
@[simp] theorem setEvent_buscond (s : State) (b : Bool) : (s.setEvent b).buscond = s.buscond := rfl
@[simp] theorem setEvent_hmem (s : State) (b : Bool) : (s.setEvent b).hmem = s.hmem := rfl
@[simp] theorem setEvent_refused (s : State) (b : Bool) : (s.setEvent b).refused = s.refused := rfl
@[simp] theorem setEvent_fgPos (s : State) (b : Bool) : (s.setEvent b).fgPos = s.fgPos := rfl
@[simp] theorem setEvent_agenda (s : State) (b : Bool) : (s.setEvent b).agenda = s.agenda := rfl
@[simp] theorem setEvent_draws (s : State) (b : Bool) : (s.setEvent b).draws = s.draws := rfl
@[simp] theorem setEvent_drawCount (s : State) (b : Bool) : (s.setEvent b).drawCount = s.drawCount := rfl
@[simp] theorem setEvent_desc (s : State) (b : Bool) (k : DescRef) : (s.setEvent b).desc k = s.desc k := rfl

/-! ### setErr -/

@[simp] theorem setErr_cfg (s : State) (e : BitVec 4) : (s.setErr e).cfg = s.cfg := rfl
@[simp] theorem setErr_descs (s : State) (e : BitVec 4) : (s.setErr e).descs = s.descs := rfl
@[simp] theorem setErr_busy (s : State) (e : BitVec 4) : (s.setErr e).busy = s.busy := rfl
@[simp] theorem setErr_event (s : State) (e : BitVec 4) : (s.setErr e).event = s.event := rfl
@[simp] theorem setErr_err (s : State) (e : BitVec 4) : (s.setErr e).err = e := rfl
@[simp] theorem setErr_pstate (s : State) (e : BitVec 4) : (s.setErr e).pstate = s.pstate := rfl
@[simp] theorem setErr_nackf (s : State) (e : BitVec 4) : (s.setErr e).nackf = s.nackf := rfl
@[simp] theorem setErr_live (s : State) (e : BitVec 4) : (s.setErr e).live = s.live := rfl
@[simp] theorem setErr_sigEn (s : State) (e : BitVec 4) : (s.setErr e).sigEn = s.sigEn := rfl
@[simp] theorem setErr_sigPend (s : State) (e : BitVec 4) : (s.setErr e).sigPend = s.sigPend := rfl
@[simp] theorem setErr_shift (s : State) (e : BitVec 4) : (s.setErr e).shift = s.shift := rfl
@[simp] theorem setErr_sr (s : State) (e : BitVec 4) : (s.setErr e).sr = s.sr := rfl
@[simp] theorem setErr_ghostDir (s : State) (e : BitVec 4) : (s.setErr e).ghostDir = s.ghostDir := rfl
@[simp] theorem setErr_rv (s : State) (e : BitVec 4) : (s.setErr e).rv = s.rv := rfl
@[simp] theorem setErr_asleep (s : State) (e : BitVec 4) : (s.setErr e).asleep = s.asleep := rfl
@[simp] theorem setErr_faults (s : State) (e : BitVec 4) : (s.setErr e).faults = s.faults := rfl
@[simp] theorem setErr_trace (s : State) (e : BitVec 4) : (s.setErr e).trace = s.trace := rfl
@[simp] theorem setErr_buscond (s : State) (e : BitVec 4) : (s.setErr e).buscond = s.buscond := rfl
@[simp] theorem setErr_hmem (s : State) (e : BitVec 4) : (s.setErr e).hmem = s.hmem := rfl
@[simp] theorem setErr_refused (s : State) (e : BitVec 4) : (s.setErr e).refused = s.refused := rfl
@[simp] theorem setErr_fgPos (s : State) (e : BitVec 4) : (s.setErr e).fgPos = s.fgPos := rfl
@[simp] theorem setErr_agenda (s : State) (e : BitVec 4) : (s.setErr e).agenda = s.agenda := rfl
@[simp] theorem setErr_draws (s : State) (e : BitVec 4) : (s.setErr e).draws = s.draws := rfl
@[simp] theorem setErr_drawCount (s : State) (e : BitVec 4) : (s.setErr e).drawCount = s.drawCount := rfl
@[simp] theorem setErr_desc (s : State) (e : BitVec 4) (k : DescRef) : (s.setErr e).desc k = s.desc k := rfl

/-! ### setPstate -/

@[simp] theorem setPstate_cfg (s : State) (p : PState) : (s.setPstate p).cfg = s.cfg := rfl
@[simp] theorem setPstate_descs (s : State) (p : PState) : (s.setPstate p).descs = s.descs := rfl
@[simp] theorem setPstate_busy (s : State) (p : PState) : (s.setPstate p).busy = s.busy := rfl
@[simp] theorem setPstate_event (s : State) (p : PState) : (s.setPstate p).event = s.event := rfl
@[simp] theorem setPstate_err (s : State) (p : PState) : (s.setPstate p).err = s.err := rfl
@[simp] theorem setPstate_pstate (s : State) (p : PState) : (s.setPstate p).pstate = p := rfl
@[simp] theorem setPstate_nackf (s : State) (p : PState) : (s.setPstate p).nackf = s.nackf := rfl
@[simp] theorem setPstate_live (s : State) (p : PState) : (s.setPstate p).live = s.live := rfl
@[simp] theorem setPstate_sigEn (s : State) (p : PState) : (s.setPstate p).sigEn = s.sigEn := rfl
@[simp] theorem setPstate_sigPend (s : State) (p : PState) : (s.setPstate p).sigPend = s.sigPend := rfl
@[simp] theorem setPstate_shift (s : State) (p : PState) : (s.setPstate p).shift = s.shift := rfl
@[simp] theorem setPstate_sr (s : State) (p : PState) : (s.setPstate p).sr = s.sr := rfl
@[simp] theorem setPstate_ghostDir (s : State) (p : PState) : (s.setPstate p).ghostDir = s.ghostDir := rfl
@[simp] theorem setPstate_rv (s : State) (p : PState) : (s.setPstate p).rv = s.rv := rfl
@[simp] theorem setPstate_asleep (s : State) (p : PState) : (s.setPstate p).asleep = s.asleep := rfl
@[simp] theorem setPstate_faults (s : State) (p : PState) : (s.setPstate p).faults = s.faults := rfl
@[simp] theorem setPstate_trace (s : State) (p : PState) : (s.setPstate p).trace = s.trace := rfl
@[simp] theorem setPstate_buscond (s : State) (p : PState) : (s.setPstate p).buscond = s.buscond := rfl
@[simp] theorem setPstate_hmem (s : State) (p : PState) : (s.setPstate p).hmem = s.hmem := rfl
@[simp] theorem setPstate_refused (s : State) (p : PState) : (s.setPstate p).refused = s.refused := rfl
@[simp] theorem setPstate_fgPos (s : State) (p : PState) : (s.setPstate p).fgPos = s.fgPos := rfl
@[simp] theorem setPstate_agenda (s : State) (p : PState) : (s.setPstate p).agenda = s.agenda := rfl
@[simp] theorem setPstate_draws (s : State) (p : PState) : (s.setPstate p).draws = s.draws := rfl
@[simp] theorem setPstate_drawCount (s : State) (p : PState) : (s.setPstate p).drawCount = s.drawCount := rfl
@[simp] theorem setPstate_desc (s : State) (p : PState) (k : DescRef) : (s.setPstate p).desc k = s.desc k := rfl

/-! ### setNackf -/

@[simp] theorem setNackf_cfg (s : State) (b : Bool) : (s.setNackf b).cfg = s.cfg := rfl
@[simp] theorem setNackf_descs (s : State) (b : Bool) : (s.setNackf b).descs = s.descs := rfl
@[simp] theorem setNackf_busy (s : State) (b : Bool) : (s.setNackf b).busy = s.busy := rfl
@[simp] theorem setNackf_event (s : State) (b : Bool) : (s.setNackf b).event = s.event := rfl
@[simp] theorem setNackf_err (s : State) (b : Bool) : (s.setNackf b).err = s.err := rfl
@[simp] theorem setNackf_pstate (s : State) (b : Bool) : (s.setNackf b).pstate = s.pstate := rfl
@[simp] theorem setNackf_nackf (s : State) (b : Bool) : (s.setNackf b).nackf = b := rfl
@[simp] theorem setNackf_live (s : State) (b : Bool) : (s.setNackf b).live = s.live := rfl
@[simp] theorem setNackf_sigEn (s : State) (b : Bool) : (s.setNackf b).sigEn = s.sigEn := rfl
@[simp] theorem setNackf_sigPend (s : State) (b : Bool) : (s.setNackf b).sigPend = s.sigPend := rfl
@[simp] theorem setNackf_shift (s : State) (b : Bool) : (s.setNackf b).shift = s.shift := rfl
@[simp] theorem setNackf_sr (s : State) (b : Bool) : (s.setNackf b).sr = s.sr := rfl
@[simp] theorem setNackf_ghostDir (s : State) (b : Bool) : (s.setNackf b).ghostDir = s.ghostDir := rfl
@[simp] theorem setNackf_rv (s : State) (b : Bool) : (s.setNackf b).rv = s.rv := rfl
@[simp] theorem setNackf_asleep (s : State) (b : Bool) : (s.setNackf b).asleep = s.asleep := rfl
@[simp] theorem setNackf_faults (s : State) (b : Bool) : (s.setNackf b).faults = s.faults := rfl
@[simp] theorem setNackf_trace (s : State) (b : Bool) : (s.setNackf b).trace = s.trace := rfl
@[simp] theorem setNackf_buscond (s : State) (b : Bool) : (s.setNackf b).buscond = s.buscond := rfl
@[simp] theorem setNackf_hmem (s : State) (b : Bool) : (s.setNackf b).hmem = s.hmem := rfl
@[simp] theorem setNackf_refused (s : State) (b : Bool) : (s.setNackf b).refused = s.refused := rfl
@[simp] theorem setNackf_fgPos (s : State) (b : Bool) : (s.setNackf b).fgPos = s.fgPos := rfl
@[simp] theorem setNackf_agenda (s : State) (b : Bool) : (s.setNackf b).agenda = s.agenda := rfl
@[simp] theorem setNackf_draws (s : State) (b : Bool) : (s.setNackf b).draws = s.draws := rfl
@[simp] theorem setNackf_drawCount (s : State) (b : Bool) : (s.setNackf b).drawCount = s.drawCount := rfl
@[simp] theorem setNackf_desc (s : State) (b : Bool) (k : DescRef) : (s.setNackf b).desc k = s.desc k := rfl

/-! ### setLive -/

@[simp] theorem setLive_cfg (s : State) (d : DescRef) : (s.setLive d).cfg = s.cfg := rfl
@[simp] theorem setLive_descs (s : State) (d : DescRef) : (s.setLive d).descs = s.descs := rfl
@[simp] theorem setLive_busy (s : State) (d : DescRef) : (s.setLive d).busy = s.busy := rfl
@[simp] theorem setLive_event (s : State) (d : DescRef) : (s.setLive d).event = s.event := rfl
@[simp] theorem setLive_err (s : State) (d : DescRef) : (s.setLive d).err = s.err := rfl
@[simp] theorem setLive_pstate (s : State) (d : DescRef) : (s.setLive d).pstate = s.pstate := rfl
@[simp] theorem setLive_nackf (s : State) (d : DescRef) : (s.setLive d).nackf = s.nackf := rfl
@[simp] theorem setLive_live (s : State) (d : DescRef) : (s.setLive d).live = some d := rfl
@[simp] theorem setLive_sigEn (s : State) (d : DescRef) : (s.setLive d).sigEn = s.sigEn := rfl
@[simp] theorem setLive_sigPend (s : State) (d : DescRef) : (s.setLive d).sigPend = s.sigPend := rfl
@[simp] theorem setLive_shift (s : State) (d : DescRef) : (s.setLive d).shift = s.shift := rfl
@[simp] theorem setLive_sr (s : State) (d : DescRef) : (s.setLive d).sr = s.sr := rfl
@[simp] theorem setLive_ghostDir (s : State) (d : DescRef) : (s.setLive d).ghostDir = s.ghostDir := rfl
@[simp] theorem setLive_rv (s : State) (d : DescRef) : (s.setLive d).rv = s.rv := rfl
@[simp] theorem setLive_asleep (s : State) (d : DescRef) : (s.setLive d).asleep = s.asleep := rfl
@[simp] theorem setLive_faults (s : State) (d : DescRef) : (s.setLive d).faults = s.faults := rfl
@[simp] theorem setLive_trace (s : State) (d : DescRef) : (s.setLive d).trace = s.trace := rfl
@[simp] theorem setLive_buscond (s : State) (d : DescRef) : (s.setLive d).buscond = s.buscond := rfl
@[simp] theorem setLive_hmem (s : State) (d : DescRef) : (s.setLive d).hmem = s.hmem := rfl
@[simp] theorem setLive_refused (s : State) (d : DescRef) : (s.setLive d).refused = s.refused := rfl
@[simp] theorem setLive_fgPos (s : State) (d : DescRef) : (s.setLive d).fgPos = s.fgPos := rfl
@[simp] theorem setLive_agenda (s : State) (d : DescRef) : (s.setLive d).agenda = s.agenda := rfl
@[simp] theorem setLive_draws (s : State) (d : DescRef) : (s.setLive d).draws = s.draws := rfl
@[simp] theorem setLive_drawCount (s : State) (d : DescRef) : (s.setLive d).drawCount = s.drawCount := rfl
@[simp] theorem setLive_desc (s : State) (d : DescRef) (k : DescRef) : (s.setLive d).desc k = s.desc k := rfl

/-! ### setSigEn -/

@[simp] theorem setSigEn_cfg (s : State) (b : Bool) : (s.setSigEn b).cfg = s.cfg := rfl
@[simp] theorem setSigEn_descs (s : State) (b : Bool) : (s.setSigEn b).descs = s.descs := rfl
@[simp] theorem setSigEn_busy (s : State) (b : Bool) : (s.setSigEn b).busy = s.busy := rfl
@[simp] theorem setSigEn_event (s : State) (b : Bool) : (s.setSigEn b).event = s.event := rfl
@[simp] theorem setSigEn_err (s : State) (b : Bool) : (s.setSigEn b).err = s.err := rfl
@[simp] theorem setSigEn_pstate (s : State) (b : Bool) : (s.setSigEn b).pstate = s.pstate := rfl
@[simp] theorem setSigEn_nackf (s : State) (b : Bool) : (s.setSigEn b).nackf = s.nackf := rfl
@[simp] theorem setSigEn_live (s : State) (b : Bool) : (s.setSigEn b).live = s.live := rfl
@[simp] theorem setSigEn_sigEn (s : State) (b : Bool) : (s.setSigEn b).sigEn = b := rfl
@[simp] theorem setSigEn_sigPend (s : State) (b : Bool) : (s.setSigEn b).sigPend = s.sigPend := rfl
@[simp] theorem setSigEn_shift (s : State) (b : Bool) : (s.setSigEn b).shift = s.shift := rfl
@[simp] theorem setSigEn_sr (s : State) (b : Bool) : (s.setSigEn b).sr = s.sr := rfl
@[simp] theorem setSigEn_ghostDir (s : State) (b : Bool) : (s.setSigEn b).ghostDir = s.ghostDir := rfl
@[simp] theorem setSigEn_rv (s : State) (b : Bool) : (s.setSigEn b).rv = s.rv := rfl
@[simp] theorem setSigEn_asleep (s : State) (b : Bool) : (s.setSigEn b).asleep = s.asleep := rfl
@[simp] theorem setSigEn_faults (s : State) (b : Bool) : (s.setSigEn b).faults = s.faults := rfl
@[simp] theorem setSigEn_trace (s : State) (b : Bool) : (s.setSigEn b).trace = s.trace := rfl
@[simp] theorem setSigEn_buscond (s : State) (b : Bool) : (s.setSigEn b).buscond = s.buscond := rfl
@[simp] theorem setSigEn_hmem (s : State) (b : Bool) : (s.setSigEn b).hmem = s.hmem := rfl
@[simp] theorem setSigEn_refused (s : State) (b : Bool) : (s.setSigEn b).refused = s.refused := rfl
@[simp] theorem setSigEn_fgPos (s : State) (b : Bool) : (s.setSigEn b).fgPos = s.fgPos := rfl
@[simp] theorem setSigEn_agenda (s : State) (b : Bool) : (s.setSigEn b).agenda = s.agenda := rfl
@[simp] theorem setSigEn_draws (s : State) (b : Bool) : (s.setSigEn b).draws = s.draws := rfl
@[simp] theorem setSigEn_drawCount (s : State) (b : Bool) : (s.setSigEn b).drawCount = s.drawCount := rfl
@[simp] theorem setSigEn_desc (s : State) (b : Bool) (k : DescRef) : (s.setSigEn b).desc k = s.desc k := rfl

/-! ### setSigPend -/

@[simp] theorem setSigPend_cfg (s : State) (b : Bool) : (s.setSigPend b).cfg = s.cfg := rfl
@[simp] theorem setSigPend_descs (s : State) (b : Bool) : (s.setSigPend b).descs = s.descs := rfl
@[simp] theorem setSigPend_busy (s : State) (b : Bool) : (s.setSigPend b).busy = s.busy := rfl
@[simp] theorem setSigPend_event (s : State) (b : Bool) : (s.setSigPend b).event = s.event := rfl
@[simp] theorem setSigPend_err (s : State) (b : Bool) : (s.setSigPend b).err = s.err := rfl
@[simp] theorem setSigPend_pstate (s : State) (b : Bool) : (s.setSigPend b).pstate = s.pstate := rfl
@[simp] theorem setSigPend_nackf (s : State) (b : Bool) : (s.setSigPend b).nackf = s.nackf := rfl
@[simp] theorem setSigPend_live (s : State) (b : Bool) : (s.setSigPend b).live = s.live := rfl
@[simp] theorem setSigPend_sigEn (s : State) (b : Bool) : (s.setSigPend b).sigEn = s.sigEn := rfl
@[simp] theorem setSigPend_sigPend (s : State) (b : Bool) : (s.setSigPend b).sigPend = b := rfl
@[simp] theorem setSigPend_shift (s : State) (b : Bool) : (s.setSigPend b).shift = s.shift := rfl
@[simp] theorem setSigPend_sr (s : State) (b : Bool) : (s.setSigPend b).sr = s.sr := rfl
@[simp] theorem setSigPend_ghostDir (s : State) (b : Bool) : (s.setSigPend b).ghostDir = s.ghostDir := rfl
@[simp] theorem setSigPend_rv (s : State) (b : Bool) : (s.setSigPend b).rv = s.rv := rfl
@[simp] theorem setSigPend_asleep (s : State) (b : Bool) : (s.setSigPend b).asleep = s.asleep := rfl
@[simp] theorem setSigPend_faults (s : State) (b : Bool) : (s.setSigPend b).faults = s.faults := rfl
@[simp] theorem setSigPend_trace (s : State) (b : Bool) : (s.setSigPend b).trace = s.trace := rfl
@[simp] theorem setSigPend_buscond (s : State) (b : Bool) : (s.setSigPend b).buscond = s.buscond := rfl
@[simp] theorem setSigPend_hmem (s : State) (b : Bool) : (s.setSigPend b).hmem = s.hmem := rfl
@[simp] theorem setSigPend_refused (s : State) (b : Bool) : (s.setSigPend b).refused = s.refused := rfl
@[simp] theorem setSigPend_fgPos (s : State) (b : Bool) : (s.setSigPend b).fgPos = s.fgPos := rfl
@[simp] theorem setSigPend_agenda (s : State) (b : Bool) : (s.setSigPend b).agenda = s.agenda := rfl
@[simp] theorem setSigPend_draws (s : State) (b : Bool) : (s.setSigPend b).draws = s.draws := rfl
@[simp] theorem setSigPend_drawCount (s : State) (b : Bool) : (s.setSigPend b).drawCount = s.drawCount := rfl
@[simp] theorem setSigPend_desc (s : State) (b : Bool) (k : DescRef) : (s.setSigPend b).desc k = s.desc k := rfl

/-! ### setShift -/

@[simp] theorem setShift_cfg (s : State) (o : Option ShiftOp) : (s.setShift o).cfg = s.cfg := rfl
@[simp] theorem setShift_descs (s : State) (o : Option ShiftOp) : (s.setShift o).descs = s.descs := rfl
@[simp] theorem setShift_busy (s : State) (o : Option ShiftOp) : (s.setShift o).busy = s.busy := rfl
@[simp] theorem setShift_event (s : State) (o : Option ShiftOp) : (s.setShift o).event = s.event := rfl
@[simp] theorem setShift_err (s : State) (o : Option ShiftOp) : (s.setShift o).err = s.err := rfl
@[simp] theorem setShift_pstate (s : State) (o : Option ShiftOp) : (s.setShift o).pstate = s.pstate := rfl
@[simp] theorem setShift_nackf (s : State) (o : Option ShiftOp) : (s.setShift o).nackf = s.nackf := rfl
@[simp] theorem setShift_live (s : State) (o : Option ShiftOp) : (s.setShift o).live = s.live := rfl
@[simp] theorem setShift_sigEn (s : State) (o : Option ShiftOp) : (s.setShift o).sigEn = s.sigEn := rfl
@[simp] theorem setShift_sigPend (s : State) (o : Option ShiftOp) : (s.setShift o).sigPend = s.sigPend := rfl
@[simp] theorem setShift_shift (s : State) (o : Option ShiftOp) : (s.setShift o).shift = o := rfl
@[simp] theorem setShift_sr (s : State) (o : Option ShiftOp) : (s.setShift o).sr = s.sr := rfl
@[simp] theorem setShift_ghostDir (s : State) (o : Option ShiftOp) : (s.setShift o).ghostDir = s.ghostDir := rfl
@[simp] theorem setShift_rv (s : State) (o : Option ShiftOp) : (s.setShift o).rv = s.rv := rfl
@[simp] theorem setShift_asleep (s : State) (o : Option ShiftOp) : (s.setShift o).asleep = s.asleep := rfl
@[simp] theorem setShift_faults (s : State) (o : Option ShiftOp) : (s.setShift o).faults = s.faults := rfl
@[simp] theorem setShift_trace (s : State) (o : Option ShiftOp) : (s.setShift o).trace = s.trace := rfl
@[simp] theorem setShift_buscond (s : State) (o : Option ShiftOp) : (s.setShift o).buscond = s.buscond := rfl
@[simp] theorem setShift_hmem (s : State) (o : Option ShiftOp) : (s.setShift o).hmem = s.hmem := rfl
@[simp] theorem setShift_refused (s : State) (o : Option ShiftOp) : (s.setShift o).refused = s.refused := rfl
@[simp] theorem setShift_fgPos (s : State) (o : Option ShiftOp) : (s.setShift o).fgPos = s.fgPos := rfl
@[simp] theorem setShift_agenda (s : State) (o : Option ShiftOp) : (s.setShift o).agenda = s.agenda := rfl
@[simp] theorem setShift_draws (s : State) (o : Option ShiftOp) : (s.setShift o).draws = s.draws := rfl
@[simp] theorem setShift_drawCount (s : State) (o : Option ShiftOp) : (s.setShift o).drawCount = s.drawCount := rfl
@[simp] theorem setShift_desc (s : State) (o : Option ShiftOp) (k : DescRef) : (s.setShift o).desc k = s.desc k := rfl

/-! ### setSr -/

@[simp] theorem setSr_cfg (s : State) (b : Byte) : (s.setSr b).cfg = s.cfg := rfl
@[simp] theorem setSr_descs (s : State) (b : Byte) : (s.setSr b).descs = s.descs := rfl
@[simp] theorem setSr_busy (s : State) (b : Byte) : (s.setSr b).busy = s.busy := rfl
@[simp] theorem setSr_event (s : State) (b : Byte) : (s.setSr b).event = s.event := rfl
@[simp] theorem setSr_err (s : State) (b : Byte) : (s.setSr b).err = s.err := rfl
@[simp] theorem setSr_pstate (s : State) (b : Byte) : (s.setSr b).pstate = s.pstate := rfl
@[simp] theorem setSr_nackf (s : State) (b : Byte) : (s.setSr b).nackf = s.nackf := rfl
@[simp] theorem setSr_live (s : State) (b : Byte) : (s.setSr b).live = s.live := rfl
@[simp] theorem setSr_sigEn (s : State) (b : Byte) : (s.setSr b).sigEn = s.sigEn := rfl
@[simp] theorem setSr_sigPend (s : State) (b : Byte) : (s.setSr b).sigPend = s.sigPend := rfl
@[simp] theorem setSr_shift (s : State) (b : Byte) : (s.setSr b).shift = s.shift := rfl
@[simp] theorem setSr_sr (s : State) (b : Byte) : (s.setSr b).sr = some b := rfl
@[simp] theorem setSr_ghostDir (s : State) (b : Byte) : (s.setSr b).ghostDir = s.ghostDir := rfl
@[simp] theorem setSr_rv (s : State) (b : Byte) : (s.setSr b).rv = s.rv := rfl
@[simp] theorem setSr_asleep (s : State) (b : Byte) : (s.setSr b).asleep = s.asleep := rfl
@[simp] theorem setSr_faults (s : State) (b : Byte) : (s.setSr b).faults = s.faults := rfl
@[simp] theorem setSr_trace (s : State) (b : Byte) : (s.setSr b).trace = s.trace := rfl
@[simp] theorem setSr_buscond (s : State) (b : Byte) : (s.setSr b).buscond = s.buscond := rfl
@[simp] theorem setSr_hmem (s : State) (b : Byte) : (s.setSr b).hmem = s.hmem := rfl
@[simp] theorem setSr_refused (s : State) (b : Byte) : (s.setSr b).refused = s.refused := rfl
@[simp] theorem setSr_fgPos (s : State) (b : Byte) : (s.setSr b).fgPos = s.fgPos := rfl
@[simp] theorem setSr_agenda (s : State) (b : Byte) : (s.setSr b).agenda = s.agenda := rfl
@[simp] theorem setSr_draws (s : State) (b : Byte) : (s.setSr b).draws = s.draws := rfl
@[simp] theorem setSr_drawCount (s : State) (b : Byte) : (s.setSr b).drawCount = s.drawCount := rfl
@[simp] theorem setSr_desc (s : State) (b : Byte) (k : DescRef) : (s.setSr b).desc k = s.desc k := rfl

/-! ### setGhostDir -/

@[simp] theorem setGhostDir_cfg (s : State) (d : Dir) : (s.setGhostDir d).cfg = s.cfg := rfl
@[simp] theorem setGhostDir_descs (s : State) (d : Dir) : (s.setGhostDir d).descs = s.descs := rfl
@[simp] theorem setGhostDir_busy (s : State) (d : Dir) : (s.setGhostDir d).busy = s.busy := rfl
@[simp] theorem setGhostDir_event (s : State) (d : Dir) : (s.setGhostDir d).event = s.event := rfl
@[simp] theorem setGhostDir_err (s : State) (d : Dir) : (s.setGhostDir d).err = s.err := rfl
@[simp] theorem setGhostDir_pstate (s : State) (d : Dir) : (s.setGhostDir d).pstate = s.pstate := rfl
@[simp] theorem setGhostDir_nackf (s : State) (d : Dir) : (s.setGhostDir d).nackf = s.nackf := rfl
@[simp] theorem setGhostDir_live (s : State) (d : Dir) : (s.setGhostDir d).live = s.live := rfl
@[simp] theorem setGhostDir_sigEn (s : State) (d : Dir) : (s.setGhostDir d).sigEn = s.sigEn := rfl
@[simp] theorem setGhostDir_sigPend (s : State) (d : Dir) : (s.setGhostDir d).sigPend = s.sigPend := rfl
@[simp] theorem setGhostDir_shift (s : State) (d : Dir) : (s.setGhostDir d).shift = s.shift := rfl
@[simp] theorem setGhostDir_sr (s : State) (d : Dir) : (s.setGhostDir d).sr = s.sr := rfl
@[simp] theorem setGhostDir_ghostDir (s : State) (d : Dir) : (s.setGhostDir d).ghostDir = some d := rfl
@[simp] theorem setGhostDir_rv (s : State) (d : Dir) : (s.setGhostDir d).rv = s.rv := rfl
@[simp] theorem setGhostDir_asleep (s : State) (d : Dir) : (s.setGhostDir d).asleep = s.asleep := rfl
@[simp] theorem setGhostDir_faults (s : State) (d : Dir) : (s.setGhostDir d).faults = s.faults := rfl
@[simp] theorem setGhostDir_trace (s : State) (d : Dir) : (s.setGhostDir d).trace = s.trace := rfl
@[simp] theorem setGhostDir_buscond (s : State) (d : Dir) : (s.setGhostDir d).buscond = s.buscond := rfl
@[simp] theorem setGhostDir_hmem (s : State) (d : Dir) : (s.setGhostDir d).hmem = s.hmem := rfl
@[simp] theorem setGhostDir_refused (s : State) (d : Dir) : (s.setGhostDir d).refused = s.refused := rfl
@[simp] theorem setGhostDir_fgPos (s : State) (d : Dir) : (s.setGhostDir d).fgPos = s.fgPos := rfl
@[simp] theorem setGhostDir_agenda (s : State) (d : Dir) : (s.setGhostDir d).agenda = s.agenda := rfl
@[simp] theorem setGhostDir_draws (s : State) (d : Dir) : (s.setGhostDir d).draws = s.draws := rfl
@[simp] theorem setGhostDir_drawCount (s : State) (d : Dir) : (s.setGhostDir d).drawCount = s.drawCount := rfl
@[simp] theorem setGhostDir_desc (s : State) (d : Dir) (k : DescRef) : (s.setGhostDir d).desc k = s.desc k := rfl

/-! ### setRv -/

@[simp] theorem setRv_cfg (s : State) (v : Half) : (s.setRv v).cfg = s.cfg := rfl
@[simp] theorem setRv_descs (s : State) (v : Half) : (s.setRv v).descs = s.descs := rfl
@[simp] theorem setRv_busy (s : State) (v : Half) : (s.setRv v).busy = s.busy := rfl
@[simp] theorem setRv_event (s : State) (v : Half) : (s.setRv v).event = s.event := rfl
@[simp] theorem setRv_err (s : State) (v : Half) : (s.setRv v).err = s.err := rfl
@[simp] theorem setRv_pstate (s : State) (v : Half) : (s.setRv v).pstate = s.pstate := rfl
@[simp] theorem setRv_nackf (s : State) (v : Half) : (s.setRv v).nackf = s.nackf := rfl
@[simp] theorem setRv_live (s : State) (v : Half) : (s.setRv v).live = s.live := rfl
@[simp] theorem setRv_sigEn (s : State) (v : Half) : (s.setRv v).sigEn = s.sigEn := rfl
@[simp] theorem setRv_sigPend (s : State) (v : Half) : (s.setRv v).sigPend = s.sigPend := rfl
@[simp] theorem setRv_shift (s : State) (v : Half) : (s.setRv v).shift = s.shift := rfl
@[simp] theorem setRv_sr (s : State) (v : Half) : (s.setRv v).sr = s.sr := rfl
@[simp] theorem setRv_ghostDir (s : State) (v : Half) : (s.setRv v).ghostDir = s.ghostDir := rfl
@[simp] theorem setRv_rv (s : State) (v : Half) : (s.setRv v).rv = some v := rfl
@[simp] theorem setRv_asleep (s : State) (v : Half) : (s.setRv v).asleep = s.asleep := rfl
@[simp] theorem setRv_faults (s : State) (v : Half) : (s.setRv v).faults = s.faults := rfl
@[simp] theorem setRv_trace (s : State) (v : Half) : (s.setRv v).trace = s.trace := rfl
@[simp] theorem setRv_buscond (s : State) (v : Half) : (s.setRv v).buscond = s.buscond := rfl
@[simp] theorem setRv_hmem (s : State) (v : Half) : (s.setRv v).hmem = s.hmem := rfl
@[simp] theorem setRv_refused (s : State) (v : Half) : (s.setRv v).refused = s.refused := rfl
@[simp] theorem setRv_fgPos (s : State) (v : Half) : (s.setRv v).fgPos = s.fgPos := rfl
@[simp] theorem setRv_agenda (s : State) (v : Half) : (s.setRv v).agenda = s.agenda := rfl
@[simp] theorem setRv_draws (s : State) (v : Half) : (s.setRv v).draws = s.draws := rfl
@[simp] theorem setRv_drawCount (s : State) (v : Half) : (s.setRv v).drawCount = s.drawCount := rfl
@[simp] theorem setRv_desc (s : State) (v : Half) (k : DescRef) : (s.setRv v).desc k = s.desc k := rfl

/-! ### setAsleep -/

@[simp] theorem setAsleep_cfg (s : State) (b : Bool) : (s.setAsleep b).cfg = s.cfg := rfl
@[simp] theorem setAsleep_descs (s : State) (b : Bool) : (s.setAsleep b).descs = s.descs := rfl
@[simp] theorem setAsleep_busy (s : State) (b : Bool) : (s.setAsleep b).busy = s.busy := rfl
@[simp] theorem setAsleep_event (s : State) (b : Bool) : (s.setAsleep b).event = s.event := rfl
@[simp] theorem setAsleep_err (s : State) (b : Bool) : (s.setAsleep b).err = s.err := rfl
@[simp] theorem setAsleep_pstate (s : State) (b : Bool) : (s.setAsleep b).pstate = s.pstate := rfl
@[simp] theorem setAsleep_nackf (s : State) (b : Bool) : (s.setAsleep b).nackf = s.nackf := rfl
@[simp] theorem setAsleep_live (s : State) (b : Bool) : (s.setAsleep b).live = s.live := rfl
@[simp] theorem setAsleep_sigEn (s : State) (b : Bool) : (s.setAsleep b).sigEn = s.sigEn := rfl
@[simp] theorem setAsleep_sigPend (s : State) (b : Bool) : (s.setAsleep b).sigPend = s.sigPend := rfl
@[simp] theorem setAsleep_shift (s : State) (b : Bool) : (s.setAsleep b).shift = s.shift := rfl
@[simp] theorem setAsleep_sr (s : State) (b : Bool) : (s.setAsleep b).sr = s.sr := rfl
@[simp] theorem setAsleep_ghostDir (s : State) (b : Bool) : (s.setAsleep b).ghostDir = s.ghostDir := rfl
@[simp] theorem setAsleep_rv (s : State) (b : Bool) : (s.setAsleep b).rv = s.rv := rfl
@[simp] theorem setAsleep_asleep (s : State) (b : Bool) : (s.setAsleep b).asleep = b := rfl
@[simp] theorem setAsleep_faults (s : State) (b : Bool) : (s.setAsleep b).faults = s.faults := rfl
@[simp] theorem setAsleep_trace (s : State) (b : Bool) : (s.setAsleep b).trace = s.trace := rfl
@[simp] theorem setAsleep_buscond (s : State) (b : Bool) : (s.setAsleep b).buscond = s.buscond := rfl
@[simp] theorem setAsleep_hmem (s : State) (b : Bool) : (s.setAsleep b).hmem = s.hmem := rfl
@[simp] theorem setAsleep_refused (s : State) (b : Bool) : (s.setAsleep b).refused = s.refused := rfl
@[simp] theorem setAsleep_fgPos (s : State) (b : Bool) : (s.setAsleep b).fgPos = s.fgPos := rfl
@[simp] theorem setAsleep_agenda (s : State) (b : Bool) : (s.setAsleep b).agenda = s.agenda := rfl
@[simp] theorem setAsleep_draws (s : State) (b : Bool) : (s.setAsleep b).draws = s.draws := rfl
@[simp] theorem setAsleep_drawCount (s : State) (b : Bool) : (s.setAsleep b).drawCount = s.drawCount := rfl
@[simp] theorem setAsleep_desc (s : State) (b : Bool) (k : DescRef) : (s.setAsleep b).desc k = s.desc k := rfl

/-! ### setFaults -/

@[simp] theorem setFaults_cfg (s : State) (fs : List FaultRecord) : (s.setFaults fs).cfg = s.cfg := rfl
@[simp] theorem setFaults_descs (s : State) (fs : List FaultRecord) : (s.setFaults fs).descs = s.descs := rfl
@[simp] theorem setFaults_busy (s : State) (fs : List FaultRecord) : (s.setFaults fs).busy = s.busy := rfl
@[simp] theorem setFaults_event (s : State) (fs : List FaultRecord) : (s.setFaults fs).event = s.event := rfl
@[simp] theorem setFaults_err (s : State) (fs : List FaultRecord) : (s.setFaults fs).err = s.err := rfl
@[simp] theorem setFaults_pstate (s : State) (fs : List FaultRecord) : (s.setFaults fs).pstate = s.pstate := rfl
@[simp] theorem setFaults_nackf (s : State) (fs : List FaultRecord) : (s.setFaults fs).nackf = s.nackf := rfl
@[simp] theorem setFaults_live (s : State) (fs : List FaultRecord) : (s.setFaults fs).live = s.live := rfl
@[simp] theorem setFaults_sigEn (s : State) (fs : List FaultRecord) : (s.setFaults fs).sigEn = s.sigEn := rfl
@[simp] theorem setFaults_sigPend (s : State) (fs : List FaultRecord) : (s.setFaults fs).sigPend = s.sigPend := rfl
@[simp] theorem setFaults_shift (s : State) (fs : List FaultRecord) : (s.setFaults fs).shift = s.shift := rfl
@[simp] theorem setFaults_sr (s : State) (fs : List FaultRecord) : (s.setFaults fs).sr = s.sr := rfl
@[simp] theorem setFaults_ghostDir (s : State) (fs : List FaultRecord) : (s.setFaults fs).ghostDir = s.ghostDir := rfl
@[simp] theorem setFaults_rv (s : State) (fs : List FaultRecord) : (s.setFaults fs).rv = s.rv := rfl
@[simp] theorem setFaults_asleep (s : State) (fs : List FaultRecord) : (s.setFaults fs).asleep = s.asleep := rfl
@[simp] theorem setFaults_faults (s : State) (fs : List FaultRecord) : (s.setFaults fs).faults = fs := rfl
@[simp] theorem setFaults_trace (s : State) (fs : List FaultRecord) : (s.setFaults fs).trace = s.trace := rfl
@[simp] theorem setFaults_buscond (s : State) (fs : List FaultRecord) : (s.setFaults fs).buscond = s.buscond := rfl
@[simp] theorem setFaults_hmem (s : State) (fs : List FaultRecord) : (s.setFaults fs).hmem = s.hmem := rfl
@[simp] theorem setFaults_refused (s : State) (fs : List FaultRecord) : (s.setFaults fs).refused = s.refused := rfl
@[simp] theorem setFaults_fgPos (s : State) (fs : List FaultRecord) : (s.setFaults fs).fgPos = s.fgPos := rfl
@[simp] theorem setFaults_agenda (s : State) (fs : List FaultRecord) : (s.setFaults fs).agenda = s.agenda := rfl
@[simp] theorem setFaults_draws (s : State) (fs : List FaultRecord) : (s.setFaults fs).draws = s.draws := rfl
@[simp] theorem setFaults_drawCount (s : State) (fs : List FaultRecord) : (s.setFaults fs).drawCount = s.drawCount := rfl
@[simp] theorem setFaults_desc (s : State) (fs : List FaultRecord) (k : DescRef) : (s.setFaults fs).desc k = s.desc k := rfl

/-! ### setTrace -/

@[simp] theorem setTrace_cfg (s : State) (tr : List BusEvent) : (s.setTrace tr).cfg = s.cfg := rfl
@[simp] theorem setTrace_descs (s : State) (tr : List BusEvent) : (s.setTrace tr).descs = s.descs := rfl
@[simp] theorem setTrace_busy (s : State) (tr : List BusEvent) : (s.setTrace tr).busy = s.busy := rfl
@[simp] theorem setTrace_event (s : State) (tr : List BusEvent) : (s.setTrace tr).event = s.event := rfl
@[simp] theorem setTrace_err (s : State) (tr : List BusEvent) : (s.setTrace tr).err = s.err := rfl
@[simp] theorem setTrace_pstate (s : State) (tr : List BusEvent) : (s.setTrace tr).pstate = s.pstate := rfl
@[simp] theorem setTrace_nackf (s : State) (tr : List BusEvent) : (s.setTrace tr).nackf = s.nackf := rfl
@[simp] theorem setTrace_live (s : State) (tr : List BusEvent) : (s.setTrace tr).live = s.live := rfl
@[simp] theorem setTrace_sigEn (s : State) (tr : List BusEvent) : (s.setTrace tr).sigEn = s.sigEn := rfl
@[simp] theorem setTrace_sigPend (s : State) (tr : List BusEvent) : (s.setTrace tr).sigPend = s.sigPend := rfl
@[simp] theorem setTrace_shift (s : State) (tr : List BusEvent) : (s.setTrace tr).shift = s.shift := rfl
@[simp] theorem setTrace_sr (s : State) (tr : List BusEvent) : (s.setTrace tr).sr = s.sr := rfl
@[simp] theorem setTrace_ghostDir (s : State) (tr : List BusEvent) : (s.setTrace tr).ghostDir = s.ghostDir := rfl
@[simp] theorem setTrace_rv (s : State) (tr : List BusEvent) : (s.setTrace tr).rv = s.rv := rfl
@[simp] theorem setTrace_asleep (s : State) (tr : List BusEvent) : (s.setTrace tr).asleep = s.asleep := rfl
@[simp] theorem setTrace_faults (s : State) (tr : List BusEvent) : (s.setTrace tr).faults = s.faults := rfl
@[simp] theorem setTrace_trace (s : State) (tr : List BusEvent) : (s.setTrace tr).trace = tr := rfl
@[simp] theorem setTrace_buscond (s : State) (tr : List BusEvent) : (s.setTrace tr).buscond = s.buscond := rfl
@[simp] theorem setTrace_hmem (s : State) (tr : List BusEvent) : (s.setTrace tr).hmem = s.hmem := rfl
@[simp] theorem setTrace_refused (s : State) (tr : List BusEvent) : (s.setTrace tr).refused = s.refused := rfl
@[simp] theorem setTrace_fgPos (s : State) (tr : List BusEvent) : (s.setTrace tr).fgPos = s.fgPos := rfl
@[simp] theorem setTrace_agenda (s : State) (tr : List BusEvent) : (s.setTrace tr).agenda = s.agenda := rfl
@[simp] theorem setTrace_draws (s : State) (tr : List BusEvent) : (s.setTrace tr).draws = s.draws := rfl
@[simp] theorem setTrace_drawCount (s : State) (tr : List BusEvent) : (s.setTrace tr).drawCount = s.drawCount := rfl
@[simp] theorem setTrace_desc (s : State) (tr : List BusEvent) (k : DescRef) : (s.setTrace tr).desc k = s.desc k := rfl

/-! ### setBuscond -/

@[simp] theorem setBuscond_cfg (s : State) (c : BusCond) : (s.setBuscond c).cfg = s.cfg := rfl
@[simp] theorem setBuscond_descs (s : State) (c : BusCond) : (s.setBuscond c).descs = s.descs := rfl
@[simp] theorem setBuscond_busy (s : State) (c : BusCond) : (s.setBuscond c).busy = s.busy := rfl
@[simp] theorem setBuscond_event (s : State) (c : BusCond) : (s.setBuscond c).event = s.event := rfl
@[simp] theorem setBuscond_err (s : State) (c : BusCond) : (s.setBuscond c).err = s.err := rfl
@[simp] theorem setBuscond_pstate (s : State) (c : BusCond) : (s.setBuscond c).pstate = s.pstate := rfl
@[simp] theorem setBuscond_nackf (s : State) (c : BusCond) : (s.setBuscond c).nackf = s.nackf := rfl
@[simp] theorem setBuscond_live (s : State) (c : BusCond) : (s.setBuscond c).live = s.live := rfl
@[simp] theorem setBuscond_sigEn (s : State) (c : BusCond) : (s.setBuscond c).sigEn = s.sigEn := rfl
@[simp] theorem setBuscond_sigPend (s : State) (c : BusCond) : (s.setBuscond c).sigPend = s.sigPend := rfl
@[simp] theorem setBuscond_shift (s : State) (c : BusCond) : (s.setBuscond c).shift = s.shift := rfl
@[simp] theorem setBuscond_sr (s : State) (c : BusCond) : (s.setBuscond c).sr = s.sr := rfl
@[simp] theorem setBuscond_ghostDir (s : State) (c : BusCond) : (s.setBuscond c).ghostDir = s.ghostDir := rfl
@[simp] theorem setBuscond_rv (s : State) (c : BusCond) : (s.setBuscond c).rv = s.rv := rfl
@[simp] theorem setBuscond_asleep (s : State) (c : BusCond) : (s.setBuscond c).asleep = s.asleep := rfl
@[simp] theorem setBuscond_faults (s : State) (c : BusCond) : (s.setBuscond c).faults = s.faults := rfl
@[simp] theorem setBuscond_trace (s : State) (c : BusCond) : (s.setBuscond c).trace = s.trace := rfl
@[simp] theorem setBuscond_buscond (s : State) (c : BusCond) : (s.setBuscond c).buscond = c := rfl
@[simp] theorem setBuscond_hmem (s : State) (c : BusCond) : (s.setBuscond c).hmem = s.hmem := rfl
@[simp] theorem setBuscond_refused (s : State) (c : BusCond) : (s.setBuscond c).refused = s.refused := rfl
@[simp] theorem setBuscond_fgPos (s : State) (c : BusCond) : (s.setBuscond c).fgPos = s.fgPos := rfl
@[simp] theorem setBuscond_agenda (s : State) (c : BusCond) : (s.setBuscond c).agenda = s.agenda := rfl
@[simp] theorem setBuscond_draws (s : State) (c : BusCond) : (s.setBuscond c).draws = s.draws := rfl
@[simp] theorem setBuscond_drawCount (s : State) (c : BusCond) : (s.setBuscond c).drawCount = s.drawCount := rfl
@[simp] theorem setBuscond_desc (s : State) (c : BusCond) (k : DescRef) : (s.setBuscond c).desc k = s.desc k := rfl

/-! ### setHmem -/

@[simp] theorem setHmem_cfg (s : State) (m : Memory) : (s.setHmem m).cfg = s.cfg := rfl
@[simp] theorem setHmem_descs (s : State) (m : Memory) : (s.setHmem m).descs = s.descs := rfl
@[simp] theorem setHmem_busy (s : State) (m : Memory) : (s.setHmem m).busy = s.busy := rfl
@[simp] theorem setHmem_event (s : State) (m : Memory) : (s.setHmem m).event = s.event := rfl
@[simp] theorem setHmem_err (s : State) (m : Memory) : (s.setHmem m).err = s.err := rfl
@[simp] theorem setHmem_pstate (s : State) (m : Memory) : (s.setHmem m).pstate = s.pstate := rfl
@[simp] theorem setHmem_nackf (s : State) (m : Memory) : (s.setHmem m).nackf = s.nackf := rfl
@[simp] theorem setHmem_live (s : State) (m : Memory) : (s.setHmem m).live = s.live := rfl
@[simp] theorem setHmem_sigEn (s : State) (m : Memory) : (s.setHmem m).sigEn = s.sigEn := rfl
@[simp] theorem setHmem_sigPend (s : State) (m : Memory) : (s.setHmem m).sigPend = s.sigPend := rfl
@[simp] theorem setHmem_shift (s : State) (m : Memory) : (s.setHmem m).shift = s.shift := rfl
@[simp] theorem setHmem_sr (s : State) (m : Memory) : (s.setHmem m).sr = s.sr := rfl
@[simp] theorem setHmem_ghostDir (s : State) (m : Memory) : (s.setHmem m).ghostDir = s.ghostDir := rfl
@[simp] theorem setHmem_rv (s : State) (m : Memory) : (s.setHmem m).rv = s.rv := rfl
@[simp] theorem setHmem_asleep (s : State) (m : Memory) : (s.setHmem m).asleep = s.asleep := rfl
@[simp] theorem setHmem_faults (s : State) (m : Memory) : (s.setHmem m).faults = s.faults := rfl
@[simp] theorem setHmem_trace (s : State) (m : Memory) : (s.setHmem m).trace = s.trace := rfl
@[simp] theorem setHmem_buscond (s : State) (m : Memory) : (s.setHmem m).buscond = s.buscond := rfl
@[simp] theorem setHmem_hmem (s : State) (m : Memory) : (s.setHmem m).hmem = m := rfl
@[simp] theorem setHmem_refused (s : State) (m : Memory) : (s.setHmem m).refused = s.refused := rfl
@[simp] theorem setHmem_fgPos (s : State) (m : Memory) : (s.setHmem m).fgPos = s.fgPos := rfl
@[simp] theorem setHmem_agenda (s : State) (m : Memory) : (s.setHmem m).agenda = s.agenda := rfl
@[simp] theorem setHmem_draws (s : State) (m : Memory) : (s.setHmem m).draws = s.draws := rfl
@[simp] theorem setHmem_drawCount (s : State) (m : Memory) : (s.setHmem m).drawCount = s.drawCount := rfl
@[simp] theorem setHmem_desc (s : State) (m : Memory) (k : DescRef) : (s.setHmem m).desc k = s.desc k := rfl

/-! ### setRefused -/

@[simp] theorem setRefused_cfg (s : State) (w : Word) : (s.setRefused w).cfg = s.cfg := rfl
@[simp] theorem setRefused_descs (s : State) (w : Word) : (s.setRefused w).descs = s.descs := rfl
@[simp] theorem setRefused_busy (s : State) (w : Word) : (s.setRefused w).busy = s.busy := rfl
@[simp] theorem setRefused_event (s : State) (w : Word) : (s.setRefused w).event = s.event := rfl
@[simp] theorem setRefused_err (s : State) (w : Word) : (s.setRefused w).err = s.err := rfl
@[simp] theorem setRefused_pstate (s : State) (w : Word) : (s.setRefused w).pstate = s.pstate := rfl
@[simp] theorem setRefused_nackf (s : State) (w : Word) : (s.setRefused w).nackf = s.nackf := rfl
@[simp] theorem setRefused_live (s : State) (w : Word) : (s.setRefused w).live = s.live := rfl
@[simp] theorem setRefused_sigEn (s : State) (w : Word) : (s.setRefused w).sigEn = s.sigEn := rfl
@[simp] theorem setRefused_sigPend (s : State) (w : Word) : (s.setRefused w).sigPend = s.sigPend := rfl
@[simp] theorem setRefused_shift (s : State) (w : Word) : (s.setRefused w).shift = s.shift := rfl
@[simp] theorem setRefused_sr (s : State) (w : Word) : (s.setRefused w).sr = s.sr := rfl
@[simp] theorem setRefused_ghostDir (s : State) (w : Word) : (s.setRefused w).ghostDir = s.ghostDir := rfl
@[simp] theorem setRefused_rv (s : State) (w : Word) : (s.setRefused w).rv = s.rv := rfl
@[simp] theorem setRefused_asleep (s : State) (w : Word) : (s.setRefused w).asleep = s.asleep := rfl
@[simp] theorem setRefused_faults (s : State) (w : Word) : (s.setRefused w).faults = s.faults := rfl
@[simp] theorem setRefused_trace (s : State) (w : Word) : (s.setRefused w).trace = s.trace := rfl
@[simp] theorem setRefused_buscond (s : State) (w : Word) : (s.setRefused w).buscond = s.buscond := rfl
@[simp] theorem setRefused_hmem (s : State) (w : Word) : (s.setRefused w).hmem = s.hmem := rfl
@[simp] theorem setRefused_refused (s : State) (w : Word) : (s.setRefused w).refused = some w := rfl
@[simp] theorem setRefused_fgPos (s : State) (w : Word) : (s.setRefused w).fgPos = s.fgPos := rfl
@[simp] theorem setRefused_agenda (s : State) (w : Word) : (s.setRefused w).agenda = s.agenda := rfl
@[simp] theorem setRefused_draws (s : State) (w : Word) : (s.setRefused w).draws = s.draws := rfl
@[simp] theorem setRefused_drawCount (s : State) (w : Word) : (s.setRefused w).drawCount = s.drawCount := rfl
@[simp] theorem setRefused_desc (s : State) (w : Word) (k : DescRef) : (s.setRefused w).desc k = s.desc k := rfl

/-! ### setFgPos -/

@[simp] theorem setFgPos_cfg (s : State) (p : FgPos) : (s.setFgPos p).cfg = s.cfg := rfl
@[simp] theorem setFgPos_descs (s : State) (p : FgPos) : (s.setFgPos p).descs = s.descs := rfl
@[simp] theorem setFgPos_busy (s : State) (p : FgPos) : (s.setFgPos p).busy = s.busy := rfl
@[simp] theorem setFgPos_event (s : State) (p : FgPos) : (s.setFgPos p).event = s.event := rfl
@[simp] theorem setFgPos_err (s : State) (p : FgPos) : (s.setFgPos p).err = s.err := rfl
@[simp] theorem setFgPos_pstate (s : State) (p : FgPos) : (s.setFgPos p).pstate = s.pstate := rfl
@[simp] theorem setFgPos_nackf (s : State) (p : FgPos) : (s.setFgPos p).nackf = s.nackf := rfl
@[simp] theorem setFgPos_live (s : State) (p : FgPos) : (s.setFgPos p).live = s.live := rfl
@[simp] theorem setFgPos_sigEn (s : State) (p : FgPos) : (s.setFgPos p).sigEn = s.sigEn := rfl
@[simp] theorem setFgPos_sigPend (s : State) (p : FgPos) : (s.setFgPos p).sigPend = s.sigPend := rfl
@[simp] theorem setFgPos_shift (s : State) (p : FgPos) : (s.setFgPos p).shift = s.shift := rfl
@[simp] theorem setFgPos_sr (s : State) (p : FgPos) : (s.setFgPos p).sr = s.sr := rfl
@[simp] theorem setFgPos_ghostDir (s : State) (p : FgPos) : (s.setFgPos p).ghostDir = s.ghostDir := rfl
@[simp] theorem setFgPos_rv (s : State) (p : FgPos) : (s.setFgPos p).rv = s.rv := rfl
@[simp] theorem setFgPos_asleep (s : State) (p : FgPos) : (s.setFgPos p).asleep = s.asleep := rfl
@[simp] theorem setFgPos_faults (s : State) (p : FgPos) : (s.setFgPos p).faults = s.faults := rfl
@[simp] theorem setFgPos_trace (s : State) (p : FgPos) : (s.setFgPos p).trace = s.trace := rfl
@[simp] theorem setFgPos_buscond (s : State) (p : FgPos) : (s.setFgPos p).buscond = s.buscond := rfl
@[simp] theorem setFgPos_hmem (s : State) (p : FgPos) : (s.setFgPos p).hmem = s.hmem := rfl
@[simp] theorem setFgPos_refused (s : State) (p : FgPos) : (s.setFgPos p).refused = s.refused := rfl
@[simp] theorem setFgPos_fgPos (s : State) (p : FgPos) : (s.setFgPos p).fgPos = p := rfl
@[simp] theorem setFgPos_agenda (s : State) (p : FgPos) : (s.setFgPos p).agenda = s.agenda := rfl
@[simp] theorem setFgPos_draws (s : State) (p : FgPos) : (s.setFgPos p).draws = s.draws := rfl
@[simp] theorem setFgPos_drawCount (s : State) (p : FgPos) : (s.setFgPos p).drawCount = s.drawCount := rfl
@[simp] theorem setFgPos_desc (s : State) (p : FgPos) (k : DescRef) : (s.setFgPos p).desc k = s.desc k := rfl

/-! ### setAgenda -/

@[simp] theorem setAgenda_cfg (s : State) (ts : List Turn) : (s.setAgenda ts).cfg = s.cfg := rfl
@[simp] theorem setAgenda_descs (s : State) (ts : List Turn) : (s.setAgenda ts).descs = s.descs := rfl
@[simp] theorem setAgenda_busy (s : State) (ts : List Turn) : (s.setAgenda ts).busy = s.busy := rfl
@[simp] theorem setAgenda_event (s : State) (ts : List Turn) : (s.setAgenda ts).event = s.event := rfl
@[simp] theorem setAgenda_err (s : State) (ts : List Turn) : (s.setAgenda ts).err = s.err := rfl
@[simp] theorem setAgenda_pstate (s : State) (ts : List Turn) : (s.setAgenda ts).pstate = s.pstate := rfl
@[simp] theorem setAgenda_nackf (s : State) (ts : List Turn) : (s.setAgenda ts).nackf = s.nackf := rfl
@[simp] theorem setAgenda_live (s : State) (ts : List Turn) : (s.setAgenda ts).live = s.live := rfl
@[simp] theorem setAgenda_sigEn (s : State) (ts : List Turn) : (s.setAgenda ts).sigEn = s.sigEn := rfl
@[simp] theorem setAgenda_sigPend (s : State) (ts : List Turn) : (s.setAgenda ts).sigPend = s.sigPend := rfl
@[simp] theorem setAgenda_shift (s : State) (ts : List Turn) : (s.setAgenda ts).shift = s.shift := rfl
@[simp] theorem setAgenda_sr (s : State) (ts : List Turn) : (s.setAgenda ts).sr = s.sr := rfl
@[simp] theorem setAgenda_ghostDir (s : State) (ts : List Turn) : (s.setAgenda ts).ghostDir = s.ghostDir := rfl
@[simp] theorem setAgenda_rv (s : State) (ts : List Turn) : (s.setAgenda ts).rv = s.rv := rfl
@[simp] theorem setAgenda_asleep (s : State) (ts : List Turn) : (s.setAgenda ts).asleep = s.asleep := rfl
@[simp] theorem setAgenda_faults (s : State) (ts : List Turn) : (s.setAgenda ts).faults = s.faults := rfl
@[simp] theorem setAgenda_trace (s : State) (ts : List Turn) : (s.setAgenda ts).trace = s.trace := rfl
@[simp] theorem setAgenda_buscond (s : State) (ts : List Turn) : (s.setAgenda ts).buscond = s.buscond := rfl
@[simp] theorem setAgenda_hmem (s : State) (ts : List Turn) : (s.setAgenda ts).hmem = s.hmem := rfl
@[simp] theorem setAgenda_refused (s : State) (ts : List Turn) : (s.setAgenda ts).refused = s.refused := rfl
@[simp] theorem setAgenda_fgPos (s : State) (ts : List Turn) : (s.setAgenda ts).fgPos = s.fgPos := rfl
@[simp] theorem setAgenda_agenda (s : State) (ts : List Turn) : (s.setAgenda ts).agenda = ts := rfl
@[simp] theorem setAgenda_draws (s : State) (ts : List Turn) : (s.setAgenda ts).draws = s.draws := rfl
@[simp] theorem setAgenda_drawCount (s : State) (ts : List Turn) : (s.setAgenda ts).drawCount = s.drawCount := rfl
@[simp] theorem setAgenda_desc (s : State) (ts : List Turn) (k : DescRef) : (s.setAgenda ts).desc k = s.desc k := rfl

/-! ### setDraws -/

@[simp] theorem setDraws_cfg (s : State) (bs : List Byte) (n : Nat) : (s.setDraws bs n).cfg = s.cfg := rfl
@[simp] theorem setDraws_descs (s : State) (bs : List Byte) (n : Nat) : (s.setDraws bs n).descs = s.descs := rfl
@[simp] theorem setDraws_busy (s : State) (bs : List Byte) (n : Nat) : (s.setDraws bs n).busy = s.busy := rfl
@[simp] theorem setDraws_event (s : State) (bs : List Byte) (n : Nat) : (s.setDraws bs n).event = s.event := rfl
@[simp] theorem setDraws_err (s : State) (bs : List Byte) (n : Nat) : (s.setDraws bs n).err = s.err := rfl
@[simp] theorem setDraws_pstate (s : State) (bs : List Byte) (n : Nat) : (s.setDraws bs n).pstate = s.pstate := rfl
@[simp] theorem setDraws_nackf (s : State) (bs : List Byte) (n : Nat) : (s.setDraws bs n).nackf = s.nackf := rfl
@[simp] theorem setDraws_live (s : State) (bs : List Byte) (n : Nat) : (s.setDraws bs n).live = s.live := rfl
@[simp] theorem setDraws_sigEn (s : State) (bs : List Byte) (n : Nat) : (s.setDraws bs n).sigEn = s.sigEn := rfl
@[simp] theorem setDraws_sigPend (s : State) (bs : List Byte) (n : Nat) : (s.setDraws bs n).sigPend = s.sigPend := rfl
@[simp] theorem setDraws_shift (s : State) (bs : List Byte) (n : Nat) : (s.setDraws bs n).shift = s.shift := rfl
@[simp] theorem setDraws_sr (s : State) (bs : List Byte) (n : Nat) : (s.setDraws bs n).sr = s.sr := rfl
@[simp] theorem setDraws_ghostDir (s : State) (bs : List Byte) (n : Nat) : (s.setDraws bs n).ghostDir = s.ghostDir := rfl
@[simp] theorem setDraws_rv (s : State) (bs : List Byte) (n : Nat) : (s.setDraws bs n).rv = s.rv := rfl
@[simp] theorem setDraws_asleep (s : State) (bs : List Byte) (n : Nat) : (s.setDraws bs n).asleep = s.asleep := rfl
@[simp] theorem setDraws_faults (s : State) (bs : List Byte) (n : Nat) : (s.setDraws bs n).faults = s.faults := rfl
@[simp] theorem setDraws_trace (s : State) (bs : List Byte) (n : Nat) : (s.setDraws bs n).trace = s.trace := rfl
@[simp] theorem setDraws_buscond (s : State) (bs : List Byte) (n : Nat) : (s.setDraws bs n).buscond = s.buscond := rfl
@[simp] theorem setDraws_hmem (s : State) (bs : List Byte) (n : Nat) : (s.setDraws bs n).hmem = s.hmem := rfl
@[simp] theorem setDraws_refused (s : State) (bs : List Byte) (n : Nat) : (s.setDraws bs n).refused = s.refused := rfl
@[simp] theorem setDraws_fgPos (s : State) (bs : List Byte) (n : Nat) : (s.setDraws bs n).fgPos = s.fgPos := rfl
@[simp] theorem setDraws_agenda (s : State) (bs : List Byte) (n : Nat) : (s.setDraws bs n).agenda = s.agenda := rfl
@[simp] theorem setDraws_draws (s : State) (bs : List Byte) (n : Nat) : (s.setDraws bs n).draws = bs := rfl
@[simp] theorem setDraws_drawCount (s : State) (bs : List Byte) (n : Nat) : (s.setDraws bs n).drawCount = n := rfl
@[simp] theorem setDraws_desc (s : State) (bs : List Byte) (n : Nat) (k : DescRef) : (s.setDraws bs n).desc k = s.desc k := rfl

/-! ### Reset -/

@[simp] theorem resetWith_desc (cfg : Config) (m : Memory) (d : DescRef) :
    (State.resetWith cfg m).desc d = Desc.unwritten := by
  simp [State.resetWith, State.desc]

end Sys2Proof.Machine
end

