-- ==== Sys2Proof/Laws/Ops.lean ====
section
/-! SUPPORT. One lemma per shared operation that says everything it can do: what a step wrapper answers, and, for each act,
the one form its normal result has. -/

namespace Sys2Proof.Machine

/-! ### `Except` -/

/-- A bind that ends normally ran its first part normally. -/
theorem bind_ok {α β : Type} {x : Except ModelFault α} {f : α → Except ModelFault β} {b : β}
    (h : (x >>= f) = .ok b) : ∃ a, x = .ok a ∧ f a = .ok b := by
  cases x with
  | error e => cases h
  | ok a => exact ⟨a, rfl, h⟩

@[simp] theorem ok_bind {α β : Type} (a : α) (f : α → Except ModelFault β) :
    ((.ok a : Except ModelFault α) >>= f) = f a := rfl

@[simp] theorem error_bind {α β : Type} (e : ModelFault) (f : α → Except ModelFault β) :
    ((.error e : Except ModelFault α) >>= f) = .error e := rfl

@[simp] theorem ok_map {α β : Type} (a : α) (f : α → β) :
    (Except.map f (.ok a : Except ModelFault α)) = .ok (f a) := rfl

@[simp] theorem error_map {α β : Type} (e : ModelFault) (f : α → β) :
    (Except.map f (.error e : Except ModelFault α)) = .error e := rfl

/-! ### Enabled steps -/

theorem halted_eq_none {s : State} : s.halted = none ↔ s.Running := by
  unfold State.halted State.Running
  by_cases h : s.faults = []
  · cases hr : s.refused <;> simp [h]
  · simp [h]

theorem halted_of_running {s : State} (h : s.Running) : s.halted = none := halted_eq_none.mpr h

theorem foregroundStop_eq_none {s : State} : s.foregroundStop = none ↔ s.ForegroundReady := by
  unfold State.foregroundStop State.ForegroundReady
  cases h : s.halted with
  | some f =>
    have : ¬ s.Running := fun hr => by rw [halted_of_running hr] at h; cases h
    simp [this]
  | none => simp [halted_eq_none.mp h]

theorem engineStop_eq_none {s : State} {p : PState} : s.engineStop p = none ↔ s.EngineReady p := by
  unfold State.engineStop State.EngineReady State.signalled
  cases h : s.halted with
  | some f =>
    have : ¬ s.Running := fun hr => by rw [halted_of_running hr] at h; cases h
    simp [this]
  | none => simp [halted_eq_none.mp h, and_assoc]

/-! ### Taking a fault -/

/-- From a state without a record, a fault leaves exactly one. -/
theorem takeFault_eq {s : State} (h : s.Running) (r : FaultRecord) :
    s.takeFault r = { s with faults := [r] } := by
  simp [State.takeFault, State.setFaults, h.1]

/-! ### The step wrappers, forwards -/

theorem foregroundStep_ok {i : Instr} {s t : State} (h : s.ForegroundReady) :
    foregroundStep i s (.ok t) = .next t := by
  simp [foregroundStep, foregroundStop_eq_none.mpr h, complete]

theorem foregroundStep_error {i : Instr} {s : State} {f : ModelFault} (h : s.ForegroundReady) :
    foregroundStep i s (.error f) =
      .next { s with faults := [{ fault := f, agent := .foreground, op := encode i }] } := by
  simp [foregroundStep, foregroundStop_eq_none.mpr h, complete, takeFault_eq h.1]

theorem primitiveStep_ok {i : Instr} {s t : State} (h : s.Running) : primitiveStep i s (.ok t) = .next t := by
  simp [primitiveStep, halted_of_running h, complete]

theorem primitiveStep_error {i : Instr} {s : State} {f : ModelFault} (h : s.Running) :
    primitiveStep i s (.error f) =
      .next { s with faults := [{ fault := f, agent := .engine, op := encode i }] } := by
  simp [primitiveStep, halted_of_running h, complete, takeFault_eq h]

theorem engineStep_ok {p : PState} {i : Instr} {act : State → Except ModelFault State} {s t : State}
    (h : s.EngineReady p) (ha : act (s.setAsleep false) = .ok t) : engineStep p i act s = .next t := by
  simp [engineStep, engineStop_eq_none.mpr h, complete, ha]

theorem engineStep_error {p : PState} {i : Instr} {act : State → Except ModelFault State} {s : State} {f : ModelFault}
    (h : s.EngineReady p) (ha : act (s.setAsleep false) = .error f) :
    engineStep p i act s = .next { s with faults := [{ fault := f, agent := .engine, op := encode i }] } := by
  simp [engineStep, engineStop_eq_none.mpr h, complete, ha, takeFault_eq h.1]

/-! ### The step wrappers, backwards -/

theorem foregroundStep_next {i : Instr} {s t : State} {r : Except ModelFault State}
    (h : foregroundStep i s r = .next t) :
    s.ForegroundReady ∧
      (r = .ok t ∨ ∃ f, r = .error f ∧
        t = { s with faults := [{ fault := f, agent := .foreground, op := encode i }] }) := by
  unfold foregroundStep at h
  cases hs : s.foregroundStop with
  | some f => simp [hs] at h
  | none =>
    have hr := foregroundStop_eq_none.mp hs
    refine ⟨hr, ?_⟩
    cases r with
    | ok u => simp [hs, complete] at h; exact .inl (by rw [h])
    | error f => simp [hs, complete, takeFault_eq hr.1] at h; exact .inr ⟨f, rfl, h.symm⟩

theorem primitiveStep_next {i : Instr} {s t : State} {r : Except ModelFault State}
    (h : primitiveStep i s r = .next t) :
    s.Running ∧
      (r = .ok t ∨ ∃ f, r = .error f ∧
        t = { s with faults := [{ fault := f, agent := .engine, op := encode i }] }) := by
  unfold primitiveStep at h
  cases hs : s.halted with
  | some f => simp [hs] at h
  | none =>
    have hr := halted_eq_none.mp hs
    refine ⟨hr, ?_⟩
    cases r with
    | ok u => simp [hs, complete] at h; exact .inl (by rw [h])
    | error f => simp [hs, complete, takeFault_eq hr] at h; exact .inr ⟨f, rfl, h.symm⟩

theorem engineStep_next {p : PState} {i : Instr} {act : State → Except ModelFault State} {s t : State}
    (h : engineStep p i act s = .next t) :
    s.EngineReady p ∧
      (act (s.setAsleep false) = .ok t ∨ ∃ f, act (s.setAsleep false) = .error f ∧
        t = { s with faults := [{ fault := f, agent := .engine, op := encode i }] }) := by
  unfold engineStep at h
  cases hs : s.engineStop p with
  | some f => simp [hs] at h
  | none =>
    have hr := engineStop_eq_none.mp hs
    refine ⟨hr, ?_⟩
    cases ha : act (s.setAsleep false) with
    | ok u => simp [hs, complete, ha] at h; exact .inl (by rw [h])
    | error f => simp [hs, complete, ha, takeFault_eq hr.1] at h; exact .inr ⟨f, rfl, h.symm⟩

theorem execShiftComplete_next {s t : State} (h : execShiftComplete s = .next t) :
    s.Running ∧ ∃ op, s.shift = some op ∧ t = s.completeShift op := by
  unfold execShiftComplete at h
  cases hs : s.halted with
  | some f => simp [hs] at h
  | none =>
    refine ⟨halted_eq_none.mp hs, ?_⟩
    cases ho : s.shift with
    | none => simp [hs, ho] at h
    | some op => simp [hs, ho, complete] at h; exact ⟨op, rfl, h.symm⟩

theorem execExtStimulus_next {s t : State} (h : execExtStimulus s = .next t) :
    s.Running ∧ s.asleep = true ∧ t = s.setAsleep false := by
  unfold execExtStimulus at h
  cases hs : s.halted with
  | some f => simp [hs] at h
  | none =>
    refine ⟨halted_eq_none.mp hs, ?_⟩
    cases ha : s.asleep with
    | false => simp [hs, ha] at h
    | true => simp [hs, ha, complete] at h; exact ⟨rfl, h.symm⟩

/-! ### Registers and memory -/

theorem readReg_ok {α : Type} {reg : RegName} {v : Option α} {x : α} (h : readReg reg v = .ok x) : v = some x := by
  cases v with
  | none => cases h
  | some y => cases h; rfl

theorem liveRef_ok {s : State} {d : DescRef} (h : s.liveRef = .ok d) : s.live = some d := by
  unfold State.liveRef at h
  split at h
  · cases h; assumption
  · cases h

theorem kindDir_ok {k : Kind} {d : Dir} (h : kindDir k = .ok d) : dirOf k = some d := by
  unfold kindDir at h
  split at h
  · cases h; assumption
  · cases h

theorem checkDir_ok {s : State} {dir : Dir} {u : Unit} (h : s.checkDir dir = .ok u) : s.ghostDir = some dir := by
  obtain ⟨g, hg, h⟩ := bind_ok h
  split at h
  · rename_i he; subst he; exact readReg_ok hg
  · cases h

theorem memRead_ok {s : State} {a : Half} {b : Byte} (h : s.memRead a = .ok b) :
    admits s.cfg a = true ∧ b = Memory.read s.hmem a.toNat := by
  unfold State.memRead at h
  split at h
  · cases h; exact ⟨by assumption, rfl⟩
  · cases h

theorem memWrite_ok {s t : State} {a : Half} {v : Byte} (h : s.memWrite a v = .ok t) :
    admits s.cfg a = true ∧ t = s.setHmem (Memory.write s.hmem a.toNat v) := by
  unfold State.memWrite at h
  split at h
  · cases h; exact ⟨by assumption, rfl⟩
  · cases h

/-! ### The bus -/

theorem arm_ok {s t : State} {op : ShiftOp} (h : s.arm op = .ok t) :
    s.shift = none ∧ t = (s.setShift (some op)).setSigPend false := by
  unfold State.arm at h
  split at h
  · cases h
  · cases h; exact ⟨by assumption, rfl⟩

theorem arm_none {s : State} {op : ShiftOp} (h : s.shift = none) :
    s.arm op = .ok ((s.setShift (some op)).setSigPend false) := by
  simp [State.arm, h]

theorem issueStart_ok {s t : State} (h : s.issueStart = .ok t) :
    (s.buscond = .idle ∧ t = (s.emit .start).setBuscond .active) ∨
      (s.buscond = .restartReady ∧ t = (s.emit .rstart).setBuscond .active) := by
  unfold State.issueStart at h
  split at h <;> cases h
  · exact .inl ⟨by assumption, rfl⟩
  · exact .inr ⟨by assumption, rfl⟩

theorem issueStop_ok {s t : State} (h : s.issueStop = .ok t) :
    s.buscond = .stopReady ∧ t = (s.emit .stop).setBuscond .idle := by
  unfold State.issueStop at h
  split at h <;> cases h
  exact ⟨by assumption, rfl⟩

theorem readAckBit_ok {s : State} {n : Bool} (h : s.readAckBit = .ok n) :
    ∃ b, s.sr = some b ∧ n = b.getLsbD 0 := by
  obtain ⟨b, hb, h⟩ := bind_ok h
  cases h
  exact ⟨b, readReg_ok hb, rfl⟩

/-! ### The fields after a completed shift -/

@[simp] theorem completeShift_cfg (s : State) (op : ShiftOp) : (s.completeShift op).cfg = s.cfg := by
  simp [State.completeShift, State.consumeDraw, State.emit]
@[simp] theorem completeShift_descs (s : State) (op : ShiftOp) : (s.completeShift op).descs = s.descs := by
  simp [State.completeShift, State.consumeDraw, State.emit]
@[simp] theorem completeShift_busy (s : State) (op : ShiftOp) : (s.completeShift op).busy = s.busy := by
  simp [State.completeShift, State.consumeDraw, State.emit]
@[simp] theorem completeShift_event (s : State) (op : ShiftOp) : (s.completeShift op).event = s.event := by
  simp [State.completeShift, State.consumeDraw, State.emit]
@[simp] theorem completeShift_err (s : State) (op : ShiftOp) : (s.completeShift op).err = s.err := by
  simp [State.completeShift, State.consumeDraw, State.emit]
@[simp] theorem completeShift_pstate (s : State) (op : ShiftOp) : (s.completeShift op).pstate = s.pstate := by
  simp [State.completeShift, State.consumeDraw, State.emit]
@[simp] theorem completeShift_nackf (s : State) (op : ShiftOp) : (s.completeShift op).nackf = s.nackf := by
  simp [State.completeShift, State.consumeDraw, State.emit]
@[simp] theorem completeShift_live (s : State) (op : ShiftOp) : (s.completeShift op).live = s.live := by
  simp [State.completeShift, State.consumeDraw, State.emit]
@[simp] theorem completeShift_sigEn (s : State) (op : ShiftOp) : (s.completeShift op).sigEn = s.sigEn := by
  simp [State.completeShift, State.consumeDraw, State.emit]
@[simp] theorem completeShift_sigPend (s : State) (op : ShiftOp) : (s.completeShift op).sigPend = true := by
  simp [State.completeShift, State.consumeDraw, State.emit]
@[simp] theorem completeShift_shift (s : State) (op : ShiftOp) : (s.completeShift op).shift = none := by
  simp [State.completeShift, State.consumeDraw, State.emit]
@[simp] theorem completeShift_sr (s : State) (op : ShiftOp) : (s.completeShift op).sr = some s.nextDraw := by
  simp [State.completeShift, State.consumeDraw, State.emit]
@[simp] theorem completeShift_ghostDir (s : State) (op : ShiftOp) : (s.completeShift op).ghostDir = s.ghostDir := by
  simp [State.completeShift, State.consumeDraw, State.emit]
@[simp] theorem completeShift_rv (s : State) (op : ShiftOp) : (s.completeShift op).rv = s.rv := by
  simp [State.completeShift, State.consumeDraw, State.emit]
@[simp] theorem completeShift_asleep (s : State) (op : ShiftOp) : (s.completeShift op).asleep = s.asleep := by
  simp [State.completeShift, State.consumeDraw, State.emit]
@[simp] theorem completeShift_faults (s : State) (op : ShiftOp) : (s.completeShift op).faults = s.faults := by
  simp [State.completeShift, State.consumeDraw, State.emit]
@[simp] theorem completeShift_trace (s : State) (op : ShiftOp) : (s.completeShift op).trace = s.trace ++ [op.event s.nextDraw] := by
  simp [State.completeShift, State.consumeDraw, State.emit]
@[simp] theorem completeShift_buscond (s : State) (op : ShiftOp) : (s.completeShift op).buscond = op.buscondAfter s.buscond := by
  simp [State.completeShift, State.consumeDraw, State.emit]
@[simp] theorem completeShift_hmem (s : State) (op : ShiftOp) : (s.completeShift op).hmem = s.hmem := by
  simp [State.completeShift, State.consumeDraw, State.emit]
@[simp] theorem completeShift_refused (s : State) (op : ShiftOp) : (s.completeShift op).refused = s.refused := by
  simp [State.completeShift, State.consumeDraw, State.emit]
@[simp] theorem completeShift_fgPos (s : State) (op : ShiftOp) : (s.completeShift op).fgPos = s.fgPos := by
  simp [State.completeShift, State.consumeDraw, State.emit]
@[simp] theorem completeShift_agenda (s : State) (op : ShiftOp) : (s.completeShift op).agenda = s.agenda := by
  simp [State.completeShift, State.consumeDraw, State.emit]
@[simp] theorem completeShift_draws (s : State) (op : ShiftOp) : (s.completeShift op).draws = s.draws.tail := by
  simp [State.completeShift, State.consumeDraw, State.emit]
@[simp] theorem completeShift_drawCount (s : State) (op : ShiftOp) : (s.completeShift op).drawCount = s.drawCount + 1 := by
  simp [State.completeShift, State.consumeDraw, State.emit]
@[simp] theorem completeShift_desc (s : State) (op : ShiftOp) (d : DescRef) : (s.completeShift op).desc d = s.desc d := by
  simp [State.desc]

/-! ### The acts: the form of a normal result -/

theorem actStart_ok {s t : State} (h : actStart s = .ok t) :
    ∃ d k dir a, s.live = some d ∧ (s.desc d).kind = some k ∧ dirOf k = some dir ∧ (s.desc d).addr = some a ∧
      addrDirBit a = dir.bit ∧ (s.buscond = .idle ∨ s.buscond = .restartReady) ∧ s.shift = none ∧
      t = { s with
        nackf := false
        ghostDir := some dir
        trace := s.trace ++ [if s.buscond = .idle then .start else .rstart]
        buscond := .active
        shift := some (.tx8 (wireByte s.cfg a))
        sigPend := false
        pstate := .addrAckPrep } := by
  obtain ⟨d, hd, h⟩ := bind_ok h
  obtain ⟨k, hk, h⟩ := bind_ok h
  obtain ⟨dir, hdir, h⟩ := bind_ok h
  obtain ⟨a, ha, h⟩ := bind_ok h
  split at h
  case isFalse => cases h
  case isTrue hbit =>
    obtain ⟨s1, h1, h⟩ := bind_ok h
    obtain ⟨s2, h2, h⟩ := bind_ok h
    cases h
    obtain ⟨hsh, rfl⟩ := arm_ok h2
    refine ⟨d, k, dir, a, liveRef_ok hd, readReg_ok hk, kindDir_ok hdir, readReg_ok ha, hbit, ?_⟩
    obtain ⟨hb, rfl⟩ | ⟨hb, rfl⟩ := issueStart_ok h1
    · exact ⟨.inl hb, hsh, by simp at hb; simp [hb]; rfl⟩
    · exact ⟨.inr hb, hsh, by simp at hb; simp [hb]; rfl⟩

theorem actAddrAckPrep_ok {s t : State} (h : actAddrAckPrep s = .ok t) :
    s.shift = none ∧ t = { s with shift := some .rx1, sigPend := false, pstate := .addrAckCheck } := by
  obtain ⟨s1, h1, h⟩ := bind_ok h
  obtain ⟨hs, rfl⟩ := arm_ok h1
  cases h; exact ⟨hs, rfl⟩

theorem actDataAckPrep_ok {s t : State} (h : actDataAckPrep s = .ok t) :
    s.shift = none ∧ t = { s with shift := some .rx1, sigPend := false, pstate := .dataAckCheck } := by
  obtain ⟨s1, h1, h⟩ := bind_ok h
  obtain ⟨hs, rfl⟩ := arm_ok h1
  cases h; exact ⟨hs, rfl⟩

theorem actReceiveByte_ok {s t : State} (h : actReceiveByte s = .ok t) :
    s.shift = none ∧ t = { s with shift := some .rx8, sigPend := false, pstate := .receiveStore } := by
  obtain ⟨s1, h1, h⟩ := bind_ok h
  obtain ⟨hs, rfl⟩ := arm_ok h1
  cases h; exact ⟨hs, rfl⟩

theorem actSendByte_ok {s t : State} (h : actSendByte s = .ok t) :
    ∃ d r c, s.live = some d ∧ (s.desc d).rem = some r ∧ r ≠ 0 ∧ (s.desc d).cur = some c ∧
      admits s.cfg c = true ∧ s.shift = none ∧
      t = { s with
        shift := some (.tx8 (Memory.read s.hmem c.toNat))
        sigPend := false
        descs := s.descs.set d.val { s.desc d with rem := some (r - 1), cur := some (c + 1) } d.isLt
        pstate := .dataAckPrep } := by
  obtain ⟨d, hd, h⟩ := bind_ok h
  obtain ⟨r, hr, h⟩ := bind_ok h
  split at h
  case isTrue => cases h
  case isFalse hr0 =>
    obtain ⟨c, hc, h⟩ := bind_ok h
    obtain ⟨b, hb, h⟩ := bind_ok h
    obtain ⟨s1, h1, h⟩ := bind_ok h
    cases h
    obtain ⟨hs, rfl⟩ := arm_ok h1
    obtain ⟨hadm, rfl⟩ := memRead_ok hb
    exact ⟨d, r, c, liveRef_ok hd, readReg_ok hr, hr0, readReg_ok hc, hadm, hs, rfl⟩

/-- R139: PREPARE_STOP either makes the restart-yield or prepares a true stop. -/
theorem actPrepareStop_ok {s t : State} (h : actPrepareStop s = .ok t) :
    ∃ d k dir, s.live = some d ∧ (s.desc d).kind = some k ∧ dirOf k = some dir ∧ s.shift = none ∧
      ((isRestart k = true ∧ s.nackf = false ∧
          t = { s with
            shift := some (.prep false), sigPend := false, event := true, sigEn := false, pstate := .start }) ∨
        ((isRestart k = false ∨ s.nackf = true) ∧
          t = { s with shift := some (.prep true), sigPend := false, pstate := .stop })) := by
  obtain ⟨d, hd, h⟩ := bind_ok h
  obtain ⟨k, hk, h⟩ := bind_ok h
  obtain ⟨dir, hdir, h⟩ := bind_ok h
  refine ⟨d, k, dir, liveRef_ok hd, readReg_ok hk, kindDir_ok hdir, ?_⟩
  split at h
  case isTrue hc =>
    obtain ⟨s1, h1, h⟩ := bind_ok h
    cases h
    obtain ⟨hs, rfl⟩ := arm_ok h1
    simp only [Bool.and_eq_true, Bool.not_eq_true'] at hc
    exact ⟨hs, .inl ⟨hc.1, hc.2, rfl⟩⟩
  case isFalse hc =>
    obtain ⟨s1, h1, h⟩ := bind_ok h
    cases h
    obtain ⟨hs, rfl⟩ := arm_ok h1
    refine ⟨hs, .inr ⟨?_, rfl⟩⟩
    cases hk : isRestart k <;> cases hn : s.nackf <;> simp_all

/-- R131: the four normal ends of the decision after a positive acknowledgement. -/
theorem afterAck_ok {s t : State} (h : afterAck s = .ok t) :
    ∃ d k dir r, s.live = some d ∧ (s.desc d).kind = some k ∧ dirOf k = some dir ∧ s.ghostDir = some dir ∧
      (s.desc d).rem = some r ∧
      ((r = 0 ∧ isSuspend k = true ∧ t = { s with event := true, sigEn := false }) ∨
        (r = 0 ∧ isSuspend k = false ∧ actPrepareStop (s.setPstate .prepareStop) = .ok t) ∨
        (r ≠ 0 ∧ dir = .w ∧ actSendByte (s.setPstate .sendByte) = .ok t) ∨
        (r ≠ 0 ∧ dir = .r ∧ actReceiveByte (s.setPstate .receiveByte) = .ok t)) := by
  obtain ⟨d, hd, h⟩ := bind_ok h
  obtain ⟨k, hk, h⟩ := bind_ok h
  obtain ⟨dir, hdir, h⟩ := bind_ok h
  obtain ⟨u, hu, h⟩ := bind_ok h
  obtain ⟨r, hr, h⟩ := bind_ok h
  refine ⟨d, k, dir, r, liveRef_ok hd, readReg_ok hk, kindDir_ok hdir, checkDir_ok hu, readReg_ok hr, ?_⟩
  split at h
  case isTrue h0 =>
    split at h
    case isTrue hs => cases h; exact .inl ⟨h0, hs, rfl⟩
    case isFalse hs => exact .inr (.inl ⟨h0, by simpa using hs, h⟩)
  case isFalse h0 =>
    cases dir with
    | w => exact .inr (.inr (.inl ⟨h0, rfl, h⟩))
    | r => exact .inr (.inr (.inr ⟨h0, rfl, h⟩))

theorem actReceiveStore_ok {s t : State} (h : actReceiveStore s = .ok t) :
    ∃ d r k dir b c, s.live = some d ∧ (s.desc d).rem = some r ∧ r ≠ 0 ∧ (s.desc d).kind = some k ∧
      dirOf k = some dir ∧ s.ghostDir = some dir ∧ s.sr = some b ∧ (s.desc d).cur = some c ∧
      admits s.cfg c = true ∧ s.shift = none ∧
      t = { s with
        hmem := Memory.write s.hmem c.toNat b
        descs := s.descs.set d.val { s.desc d with rem := some (r - 1), cur := some (c + 1) } d.isLt
        shift := some (.tx1 (lastByteNack k r))
        sigPend := false
        pstate := .rxAckSent } := by
  obtain ⟨d, hd, h⟩ := bind_ok h
  obtain ⟨r, hr, h⟩ := bind_ok h
  split at h
  case isTrue => cases h
  case isFalse hr0 =>
    obtain ⟨k, hk, h⟩ := bind_ok h
    obtain ⟨dir, hdir, h⟩ := bind_ok h
    obtain ⟨u, hu, h⟩ := bind_ok h
    obtain ⟨b, hb, h⟩ := bind_ok h
    obtain ⟨c, hc, h⟩ := bind_ok h
    obtain ⟨s1, h1, h⟩ := bind_ok h
    obtain ⟨s2, h2, h⟩ := bind_ok h
    cases h
    obtain ⟨hadm, rfl⟩ := memWrite_ok h1
    obtain ⟨hs, rfl⟩ := arm_ok h2
    exact ⟨d, r, k, dir, b, c, liveRef_ok hd, readReg_ok hr, hr0, readReg_ok hk, kindDir_ok hdir, checkDir_ok hu,
      readReg_ok hb, readReg_ok hc, hadm, hs, rfl⟩

theorem actStop_ok {s t : State} (h : actStop s = .ok t) :
    s.buscond = .stopReady ∧
      t = { s with trace := s.trace ++ [.stop], buscond := .idle, event := true, sigEn := false, pstate := .start } := by
  obtain ⟨s1, h1, h⟩ := bind_ok h
  cases h
  obtain ⟨hb, rfl⟩ := issueStop_ok h1
  exact ⟨hb, rfl⟩

/-- R129: an address acknowledgement check fails with NACK_ADDR or decides as after an ACK. -/
theorem actAddrAckCheck_ok {s t : State} (h : actAddrAckCheck s = .ok t) :
    ∃ b, s.sr = some b ∧
      ((b.getLsbD 0 = true ∧ nackFail errNackAddr s = .ok t) ∨ (b.getLsbD 0 = false ∧ afterAck s = .ok t)) := by
  obtain ⟨n, hn, h⟩ := bind_ok h
  obtain ⟨b, hb, rfl⟩ := readAckBit_ok hn
  refine ⟨b, hb, ?_⟩
  split at h
  case isTrue hc => exact .inl ⟨hc, h⟩
  case isFalse hc => exact .inr ⟨by simpa using hc, h⟩

/-- R135: a data acknowledgement check fails with NACK_DATA or decides as after an ACK. -/
theorem actDataAckCheck_ok {s t : State} (h : actDataAckCheck s = .ok t) :
    ∃ b, s.sr = some b ∧
      ((b.getLsbD 0 = true ∧ nackFail errNackData s = .ok t) ∨ (b.getLsbD 0 = false ∧ afterAck s = .ok t)) := by
  obtain ⟨n, hn, h⟩ := bind_ok h
  obtain ⟨b, hb, rfl⟩ := readAckBit_ok hn
  refine ⟨b, hb, ?_⟩
  split at h
  case isTrue hc => exact .inl ⟨hc, h⟩
  case isFalse hc => exact .inr ⟨by simpa using hc, h⟩

/-- R130, R139: an acknowledgement failure ends in a true stop. -/
theorem nackFail_ok {code : BitVec 4} {s t : State} (h : nackFail code s = .ok t) :
    ∃ d k dir, s.live = some d ∧ (s.desc d).kind = some k ∧ dirOf k = some dir ∧ s.shift = none ∧
      t = { s with err := code, nackf := true, shift := some (.prep true), sigPend := false, pstate := .stop } := by
  obtain ⟨d, k, dir, hd, hk, hdir, hs, h⟩ := actPrepareStop_ok h
  refine ⟨d, k, dir, hd, hk, hdir, hs, ?_⟩
  obtain ⟨-, hn, -⟩ | ⟨-, rfl⟩ := h
  · cases hn
  · rfl

/-- R176: the two normal ends of a scheduler dispatch. -/
theorem schedDispatch_ok {s t : State} (h : schedDispatch s = .ok t) :
    ∃ d, s.live = some d ∧
      (((s.desc d).cont = some .null ∧ s.sigEn = false ∧
          t = { s with
            event := false
            busy := false
            descs := s.descs.set d.val { s.desc d with kind := some .idle } d.isLt }) ∨
        ∃ c, (s.desc d).cont = some (.ref c) ∧ t = { s with event := false, fgPos := .continuation c d }) := by
  obtain ⟨d, hd, h⟩ := bind_ok h
  obtain ⟨c, hc, h⟩ := bind_ok h
  refine ⟨d, liveRef_ok hd, ?_⟩
  cases c with
  | null =>
    dsimp only at h
    split at h
    case isTrue => cases h
    case isFalse he => cases h; exact .inl ⟨readReg_ok hc, by simpa using he, rfl⟩
  | ref c => cases h; exact .inr ⟨c, readReg_ok hc, rfl⟩

/-! ### Everything a normal engine step can do -/

/-- The normal results of the acts: `s` is the state the act starts from, `t` the one it ends in. -/
inductive ActEnd (i : Instr) (s t : State) : Prop
  /-- R127 -/
  | started (d : DescRef) (k : Kind) (dir : Dir) (a : Byte) (hi : i = .stepStart) (hl : s.live = some d)
      (hk : (s.desc d).kind = some k) (hdir : dirOf k = some dir) (ha : (s.desc d).addr = some a)
      (hbus : s.buscond = .idle ∨ s.buscond = .restartReady) (hs : s.shift = none)
      (ht : t = { s with
        nackf := false
        ghostDir := some dir
        trace := s.trace ++ [if s.buscond = .idle then .start else .rstart]
        buscond := .active
        shift := some (.tx8 (wireByte s.cfg a))
        sigPend := false
        pstate := .addrAckPrep })
  /-- R128, R134 -/
  | ackPrep (p : PState) (hi : (i = .stepAddrAckPrep ∧ p = .addrAckCheck) ∨ (i = .stepDataAckPrep ∧ p = .dataAckCheck))
      (hs : s.shift = none) (ht : t = { s with shift := some .rx1, sigPend := false, pstate := p })
  /-- R130 -/
  | nacked (code : BitVec 4)
      (hi : (i = .stepAddrAckCheck ∧ code = errNackAddr) ∨ (i = .stepDataAckCheck ∧ code = errNackData))
      (hs : s.shift = none)
      (ht : t = { s with
        err := code, nackf := true, shift := some (.prep true), sigPend := false, pstate := .stop })
  /-- R132 -/
  | suspended (d : DescRef) (k : Kind) (hi : i = .stepAddrAckCheck ∨ i = .stepDataAckCheck ∨ i = .stepRxAckSent)
      (hl : s.live = some d) (hk : (s.desc d).kind = some k) (hsus : isSuspend k = true)
      (hr : (s.desc d).rem = some 0) (ht : t = { s with event := true, sigEn := false })
  /-- R140 -/
  | restarted (d : DescRef) (k : Kind)
      (hi : i = .stepAddrAckCheck ∨ i = .stepDataAckCheck ∨ i = .stepRxAckSent ∨ i = .stepPrepareStop)
      (hl : s.live = some d) (hk : (s.desc d).kind = some k) (hres : isRestart k = true) (hn : s.nackf = false)
      (hs : s.shift = none)
      (ht : t = { s with
        shift := some (.prep false), sigPend := false, event := true, sigEn := false, pstate := .start })
  /-- R139 -/
  | stopping (d : DescRef) (k : Kind)
      (hi : i = .stepAddrAckCheck ∨ i = .stepDataAckCheck ∨ i = .stepRxAckSent ∨ i = .stepPrepareStop)
      (hl : s.live = some d) (hk : (s.desc d).kind = some k) (hstop : isRestart k = false ∨ s.nackf = true)
      (hs : s.shift = none) (ht : t = { s with shift := some (.prep true), sigPend := false, pstate := .stop })
  /-- R133 -/
  | sent (d : DescRef) (r c : Half)
      (hi : i = .stepAddrAckCheck ∨ i = .stepDataAckCheck ∨ i = .stepRxAckSent ∨ i = .stepSendByte)
      (hl : s.live = some d) (hr : (s.desc d).rem = some r) (h0 : r ≠ 0) (hc : (s.desc d).cur = some c)
      (hadm : admits s.cfg c = true) (hs : s.shift = none)
      (ht : t = { s with
        shift := some (.tx8 (Memory.read s.hmem c.toNat))
        sigPend := false
        descs := s.descs.set d.val { s.desc d with rem := some (r - 1), cur := some (c + 1) } d.isLt
        pstate := .dataAckPrep })
  /-- R136 -/
  | receiving (hi : i = .stepAddrAckCheck ∨ i = .stepDataAckCheck ∨ i = .stepRxAckSent ∨ i = .stepReceiveByte)
      (hs : s.shift = none) (ht : t = { s with shift := some .rx8, sigPend := false, pstate := .receiveStore })
  /-- R137 -/
  | stored (d : DescRef) (r c : Half) (b : Byte) (n : Bool) (hi : i = .stepReceiveStore) (hl : s.live = some d)
      (hr : (s.desc d).rem = some r) (h0 : r ≠ 0) (hsr : s.sr = some b) (hc : (s.desc d).cur = some c)
      (hadm : admits s.cfg c = true) (hs : s.shift = none)
      (ht : t = { s with
        hmem := Memory.write s.hmem c.toNat b
        descs := s.descs.set d.val { s.desc d with rem := some (r - 1), cur := some (c + 1) } d.isLt
        shift := some (.tx1 n)
        sigPend := false
        pstate := .rxAckSent })
  /-- R141 -/
  | stopped (hi : i = .stepStop) (hb : s.buscond = .stopReady)
      (ht : t = { s with
        trace := s.trace ++ [.stop], buscond := .idle, event := true, sigEn := false, pstate := .start })

theorem actPrepareStop_end {i : Instr} {s t : State}
    (hi : i = .stepAddrAckCheck ∨ i = .stepDataAckCheck ∨ i = .stepRxAckSent ∨ i = .stepPrepareStop)
    (h : actPrepareStop s = .ok t) : ActEnd i s t := by
  obtain ⟨d, k, dir, hl, hk, hdir, hs, ⟨hres, hn, ht⟩ | ⟨hstop, ht⟩⟩ := actPrepareStop_ok h
  · exact .restarted d k hi hl hk hres hn hs ht
  · exact .stopping d k hi hl hk hstop hs ht

theorem afterAck_end {i : Instr} {s t : State}
    (hi : i = .stepAddrAckCheck ∨ i = .stepDataAckCheck ∨ i = .stepRxAckSent) (h : afterAck s = .ok t) :
    ActEnd i s t := by
  have hi4 : ∀ j, i = .stepAddrAckCheck ∨ i = .stepDataAckCheck ∨ i = .stepRxAckSent ∨ i = j := by
    intro j; rcases hi with hi | hi | hi <;> simp [hi]
  obtain ⟨d, k, dir, r, hl, hk, hdir, hg, hr, h⟩ := afterAck_ok h
  rcases h with ⟨h0, hsus, ht⟩ | ⟨-, -, h⟩ | ⟨h0, hd, h⟩ | ⟨h0, hd, h⟩
  · exact .suspended d k hi hl hk hsus (by rw [hr, h0]) ht
  · obtain ⟨d, k, _, hl, hk, _, hs, ⟨hres, hn, rfl⟩ | ⟨hstop, rfl⟩⟩ := actPrepareStop_ok h
    · exact .restarted d k (hi4 _) hl hk hres hn hs rfl
    · exact .stopping d k (hi4 _) hl hk hstop hs rfl
  · obtain ⟨d, r, c, hl, hr, h0, hc, hadm, hs, rfl⟩ := actSendByte_ok h
    exact .sent d r c (hi4 _) hl hr h0 hc hadm hs rfl
  · obtain ⟨hs, rfl⟩ := actReceiveByte_ok h
    exact .receiving (hi4 _) hs rfl

/-- The act of a protocol state, as the operation that runs it names it. -/
def actOf (i : Instr) : State → Except ModelFault State :=
  match i with
  | .stepStart => actStart
  | .stepAddrAckPrep => actAddrAckPrep
  | .stepAddrAckCheck => actAddrAckCheck
  | .stepSendByte => actSendByte
  | .stepDataAckPrep => actDataAckPrep
  | .stepDataAckCheck => actDataAckCheck
  | .stepReceiveByte => actReceiveByte
  | .stepReceiveStore => actReceiveStore
  | .stepRxAckSent => actRxAckSent
  | .stepPrepareStop => actPrepareStop
  | .stepStop => actStop
  | _ => fun s => .ok s

/-- An engine-step operation is the engine step of its state's act. -/
theorem exec_of_stepState {i : Instr} {p : PState} (h : i.stepState = some p) (s : State) :
    exec i s = engineStep p i (actOf i) s := by
  cases i <;> simp only [Instr.stepState, reduceCtorEq, Option.some.injEq] at h <;> subst h <;> rfl

theorem act_end {i : Instr} {p : PState} {s t : State} (hi : i.stepState = some p) (h : actOf i s = .ok t) :
    ActEnd i s t := by
  cases i <;> simp only [Instr.stepState, reduceCtorEq] at hi <;> simp only [actOf] at h
  · obtain ⟨d, k, dir, a, hl, hk, hdir, ha, -, hbus, hs, ht⟩ := actStart_ok h
    exact .started d k dir a rfl hl hk hdir ha hbus hs ht
  · obtain ⟨hs, ht⟩ := actAddrAckPrep_ok h
    exact .ackPrep _ (.inl ⟨rfl, rfl⟩) hs ht
  · obtain ⟨b, -, ⟨-, h⟩ | ⟨-, h⟩⟩ := actAddrAckCheck_ok h
    · obtain ⟨_, _, _, _, _, _, hs, ht⟩ := nackFail_ok h
      exact .nacked _ (.inl ⟨rfl, rfl⟩) hs ht
    · exact afterAck_end (.inl rfl) h
  · obtain ⟨d, r, c, hl, hr, h0, hc, hadm, hs, ht⟩ := actSendByte_ok h
    exact .sent d r c (.inr (.inr (.inr rfl))) hl hr h0 hc hadm hs ht
  · obtain ⟨hs, ht⟩ := actDataAckPrep_ok h
    exact .ackPrep _ (.inr ⟨rfl, rfl⟩) hs ht
  · obtain ⟨b, -, ⟨-, h⟩ | ⟨-, h⟩⟩ := actDataAckCheck_ok h
    · obtain ⟨_, _, _, _, _, _, hs, ht⟩ := nackFail_ok h
      exact .nacked _ (.inr ⟨rfl, rfl⟩) hs ht
    · exact afterAck_end (.inr (.inl rfl)) h
  · obtain ⟨hs, ht⟩ := actReceiveByte_ok h
    exact .receiving (.inr (.inr (.inr rfl))) hs ht
  · obtain ⟨d, r, k, dir, b, c, hl, hr, h0, -, -, -, hsr, hc, hadm, hs, ht⟩ := actReceiveStore_ok h
    exact .stored d r c b _ rfl hl hr h0 hsr hc hadm hs ht
  · exact afterAck_end (.inr (.inr rfl)) h
  · exact actPrepareStop_end (.inr (.inr (.inr rfl))) h
  · obtain ⟨hb, ht⟩ := actStop_ok h
    exact .stopped rfl hb ht

/-- The issuer of an engine step (R91). -/
theorem issuer_of_stepState {i : Instr} {p : PState} (h : i.stepState = some p) : i.issuer = .engine := by
  cases i <;> simp only [Instr.stepState, reduceCtorEq] at h <;> rfl

/-- The inversion of an engine step: one fault record, or the normal result of its act. -/
theorem engine_next {i : Instr} {p : PState} {s t : State} (hi : i.stepState = some p) (h : exec i s = .next t) :
    s.EngineReady p ∧ ((∃ f, t = s.faulted i f) ∨ ActEnd i (s.setAsleep false) t) := by
  rw [exec_of_stepState hi] at h
  obtain ⟨hr, h | ⟨f, -, h⟩⟩ := engineStep_next h
  · exact ⟨hr, .inr (act_end hi h)⟩
  · exact ⟨hr, .inl ⟨f, by simp only [State.faulted, issuer_of_stepState hi, h]⟩⟩

/-! ### Everything a normal step can do -/

/-- The normal results of the operations. -/
inductive StepEnd (i : Instr) (s t : State) : Prop
  /-- an engine step (R126) -/
  | engine (p : PState) (hi : i.stepState = some p) (hr : s.EngineReady p) (h : ActEnd i (s.setAsleep false) t)
  /-- R101 -/
  | armed (op : ShiftOp) (hi : i.isPrimitive = true) (hs : s.shift = none)
      (ht : t = { s with shift := some op, sigPend := false })
  /-- R102 -/
  | startIssued (hi : i = .issueStart) (hb : s.buscond = .idle ∨ s.buscond = .restartReady)
      (ht : t = { s with trace := s.trace ++ [if s.buscond = .idle then .start else .rstart], buscond := .active })
  /-- R107 -/
  | stopIssued (hi : i = .issueStop) (hb : s.buscond = .stopReady)
      (ht : t = { s with trace := s.trace ++ [.stop], buscond := .idle })
  /-- a read into the calling act, and the operations that end with no change (R105, R109, R176, R178) -/
  | same (hi : i = .readReceivedByte ∨ i = .readAckBit ∨ i = .schedIter ∨ i = .lpmWait) (ht : t = s)
  /-- a value into `RV` (R151, R155, R157, R159, R166, R171) -/
  | value (v : Half) (hi : i.issuer = .foreground) (ht : t = s.setRv v)
  /-- R151 -/
  | startedLive (d : DescRef) (hi : i = .start (some d)) (he : s.sigEn = false)
      (ht : t = { s with live := some d, sigEn := true, rv := some 0 })
  /-- R153 -/
  | resumed (hi : i = .resume) (hl : s.live ≠ none) (ht : t = { s with sigEn := true })
  /-- R154 -/
  | forced (d : DescRef) (hi : i = .forceStop) (hl : s.live = some d)
      (ht : t = { s with descs := s.descs.set d.val { s.desc d with rem := some 0 } d.isLt, sigEn := true })
  /-- R158 -/
  | descWritten (d : DescRef) (f : Field) (v : Half) (hi : i = .descWrite d f v)
      (ho : ¬ (s.live = some d ∧ s.sigEn = true))
      (ht : t = { s with descs := s.descs.set d.val ((s.desc d).writeField f v) d.isLt })
  /-- R160 -/
  | memWritten (a : Half) (v : Byte) (hi : i = .memWrite a v) (hadm : admits s.cfg a = true)
      (ht : t = { s with hmem := Memory.write s.hmem a.toNat v })
  /-- R167, R168 -/
  | busyWritten (b : Bool) (hi : (i = .acquire ∧ b = true) ∨ (i = .release ∧ b = false)) (ht : t = { s with busy := b })
  /-- R169, R170 -/
  | eventWritten (b : Bool) (hi : (i = .raiseEvent ∧ b = true) ∨ (i = .clearEvent ∧ b = false))
      (ht : t = { s with event := b })
  /-- R176 -/
  | released (d : DescRef) (hi : i = .schedIter) (hl : s.live = some d) (he : s.sigEn = false)
      (ht : t = { s with
        event := false, busy := false, descs := s.descs.set d.val { s.desc d with kind := some .idle } d.isLt })
  /-- R176, R177 -/
  | invoked (c : Half) (d : DescRef) (hi : i = .schedIter) (hl : s.live = some d)
      (ht : t = { s with event := false, fgPos := .continuation c d })
  /-- R178 -/
  | slept (hi : i = .lpmWait) (ht : t = { s with asleep := true })
  /-- R179 -/
  | woken (hi : i = .extStimulus) (ha : s.asleep = true) (ht : t = { s with asleep := false })
  /-- R112 -/
  | completed (op : ShiftOp) (hi : i = .shiftComplete) (hs : s.shift = some op) (ht : t = s.completeShift op)

/-- The inversion of `exec`: a next state is the state before the operation with one fault record, or one of its normal
results; and the state it left was running. -/
theorem exec_next {i : Instr} {s t : State} (h : exec i s = .next t) :
    s.Running ∧ ((∃ f, t = s.faulted i f) ∨ StepEnd i s t) := by
  have F : ∀ {r}, i.issuer = .foreground → foregroundStep i s r = .next t → (r = .ok t → StepEnd i s t) →
      s.Running ∧ ((∃ f, t = s.faulted i f) ∨ StepEnd i s t) := by
    intro r hi h hok
    obtain ⟨hr, h | ⟨f, -, h⟩⟩ := foregroundStep_next h
    · exact ⟨hr.1, .inr (hok h)⟩
    · exact ⟨hr.1, .inl ⟨f, by simp only [State.faulted, hi, h]⟩⟩
  have P : ∀ {r}, i.issuer = .engine → primitiveStep i s r = .next t → (r = .ok t → StepEnd i s t) →
      s.Running ∧ ((∃ f, t = s.faulted i f) ∨ StepEnd i s t) := by
    intro r hi h hok
    obtain ⟨hr, h | ⟨f, -, h⟩⟩ := primitiveStep_next h
    · exact ⟨hr, .inr (hok h)⟩
    · exact ⟨hr, .inl ⟨f, by simp only [State.faulted, hi, h]⟩⟩
  have A : ∀ {op}, i.isPrimitive = true → s.arm op = .ok t → StepEnd i s t := by
    intro op hi h
    obtain ⟨hs, ht⟩ := arm_ok h
    exact .armed op hi hs ht
  cases hp : i.stepState with
  | some p =>
    obtain ⟨hr, hf | he⟩ := engine_next hp h
    · exact ⟨hr.1, .inl hf⟩
    · exact ⟨hr.1, .inr (.engine p hp hr he)⟩
  | none =>
    cases i <;> simp only [Instr.stepState, reduceCtorEq] at hp <;> clear hp
    case issueStart =>
      refine P rfl h fun h => ?_
      obtain ⟨hb, ht⟩ | ⟨hb, ht⟩ := issueStart_ok h
      · exact .startIssued rfl (.inl hb) (by simp only [ht, hb]; rfl)
      · exact .startIssued rfl (.inr hb) (by simp only [ht, hb]; rfl)
    case sendByte b => exact P rfl h (A rfl)
    case receiveByte => exact P rfl h (A rfl)
    case readReceivedByte =>
      refine P rfl h fun h => ?_
      cases hr : s.readReceivedByte <;> rw [hr] at h <;> cases h
      exact .same (.inl rfl) rfl
    case prepareStopOrRestart b => exact P rfl h (A rfl)
    case issueStop =>
      refine P rfl h fun h => ?_
      obtain ⟨hb, ht⟩ := issueStop_ok h
      exact .stopIssued rfl hb ht
    case prepareAckPhase => exact P rfl h (A rfl)
    case readAckBit =>
      refine P rfl h fun h => ?_
      cases hr : s.readAckBit <;> rw [hr] at h <;> cases h
      exact .same (.inr (.inl rfl)) rfl
    case sendAckBit b => exact P rfl h (A rfl)
    case start d =>
      refine F rfl h fun h => ?_
      cases d with
      | none => cases h; exact .value _ rfl rfl
      | some d =>
        dsimp only at h
        split at h
        case isTrue => cases h
        case isFalse he => cases h; exact .startedLive d rfl (by simpa using he) rfl
    case resume =>
      refine F rfl h fun h => ?_
      cases hl : s.live <;> simp only [State.liveRef, hl] at h <;> cases h
      exact .resumed rfl (by simp [hl]) rfl
    case forceStop =>
      refine F rfl h fun h => ?_
      cases hl : s.live <;> simp only [State.liveRef, hl] at h <;> cases h
      exact .forced _ rfl hl rfl
    case getError => refine F rfl h fun h => ?_; cases h; exact .value _ rfl rfl
    case isBusy => refine F rfl h fun h => ?_; cases h; exact .value _ rfl rfl
    case acquire =>
      refine F rfl h fun h => ?_
      split at h <;> cases h
      exact .busyWritten _ (.inl ⟨rfl, rfl⟩) rfl
    case release => refine F rfl h fun h => ?_; cases h; exact .busyWritten _ (.inr ⟨rfl, rfl⟩) rfl
    case raiseEvent => refine F rfl h fun h => ?_; cases h; exact .eventWritten _ (.inl ⟨rfl, rfl⟩) rfl
    case clearEvent => refine F rfl h fun h => ?_; cases h; exact .eventWritten _ (.inr ⟨rfl, rfl⟩) rfl
    case checkEvent => refine F rfl h fun h => ?_; cases h; exact .value _ rfl rfl
    case descRead d f =>
      refine F rfl h fun h => ?_
      cases hv : (s.desc d).fieldWord f <;> rw [hv] at h <;> cases h
      exact .value _ rfl rfl
    case descWrite d f v =>
      refine F rfl h fun h => ?_
      split at h
      case isTrue => cases h
      case isFalse ho => cases h; exact .descWritten d f v rfl ho rfl
    case memRead a =>
      refine F rfl h fun h => ?_
      cases hb : s.memRead a <;> rw [hb] at h <;> cases h
      exact .value _ rfl rfl
    case memWrite a v =>
      refine F rfl h fun h => ?_
      obtain ⟨hadm, ht⟩ := memWrite_ok h
      exact .memWritten a v rfl hadm ht
    case shiftComplete =>
      obtain ⟨hr, op, hs, ht⟩ := execShiftComplete_next h
      exact ⟨hr, .inr (.completed op rfl hs ht)⟩
    case schedIter =>
      refine F rfl h fun h => ?_
      split at h
      case isFalse => cases h; exact .same (.inr (.inr (.inl rfl))) rfl
      case isTrue =>
        obtain ⟨d, hl, ⟨-, he, ht⟩ | ⟨c, -, ht⟩⟩ := schedDispatch_ok h
        · exact .released d rfl hl he ht
        · exact .invoked c d rfl hl ht
    case lpmWait =>
      refine F rfl h fun h => ?_
      split at h <;> cases h
      · exact .same (.inr (.inr (.inr rfl))) rfl
      · exact .slept rfl rfl
    case extStimulus =>
      obtain ⟨hr, ha, ht⟩ := execExtStimulus_next h
      exact ⟨hr, .inr (.woken rfl ha ht)⟩

end Sys2Proof.Machine
end

