-- ==== Sys2Proof/Laws/PerInstr.lean ====
section
/-! SUPPORT. Per operation: the bits that spec/opcode_table.json fixes in the word of its row. -/

namespace Sys2Proof.Laws.EncodesItsRow

/-- The bits a row of the opcode table fixes: `mask` marks them and `value` holds them. -/
structure Row where
  mask : Word
  value : Word

/-- The row of an operation in spec/opcode_table.json. -/
def row (i : Instr) : Row :=
  match i with
  | .issueStart => ⟨0xFFFFFFFF, 0x00000000⟩
  | .sendByte _ => ⟨0xFFFFFF00, 0x01000000⟩
  | .receiveByte => ⟨0xFFFFFFFF, 0x02000000⟩
  | .readReceivedByte => ⟨0xFFFFFFFF, 0x03000000⟩
  | .prepareStopOrRestart _ => ⟨0xFEFFFFFF, 0x04000000⟩
  | .issueStop => ⟨0xFFFFFFFF, 0x06000000⟩
  | .prepareAckPhase => ⟨0xFFFFFFFF, 0x07000000⟩
  | .readAckBit => ⟨0xFFFFFFFF, 0x08000000⟩
  | .sendAckBit _ => ⟨0xFEFFFFFF, 0x0A000000⟩
  | .start _ => ⟨0xFF0FFFFF, 0x10000000⟩
  | .resume => ⟨0xFFFFFFFF, 0x11000000⟩
  | .forceStop => ⟨0xFFFFFFFF, 0x12000000⟩
  | .getError => ⟨0xFFFFFFFF, 0x13000000⟩
  | .isBusy => ⟨0xFFFFFFFF, 0x20000000⟩
  | .acquire => ⟨0xFFFFFFFF, 0x21000000⟩
  | .release => ⟨0xFFFFFFFF, 0x22000000⟩
  | .raiseEvent => ⟨0xFFFFFFFF, 0x23000000⟩
  | .clearEvent => ⟨0xFFFFFFFF, 0x24000000⟩
  | .checkEvent => ⟨0xFFFFFFFF, 0x25000000⟩
  | .descRead _ _ => ⟨0xFF00FFFF, 0x30000000⟩
  | .descWrite _ _ _ => ⟨0xFF000000, 0x31000000⟩
  | .memRead _ => ⟨0xFFFF0000, 0x32000000⟩
  | .memWrite _ _ => ⟨0xFF000000, 0x33000000⟩
  | .stepStart => ⟨0xFFFFFFFF, 0x40000000⟩
  | .stepAddrAckPrep => ⟨0xFFFFFFFF, 0x41000000⟩
  | .stepAddrAckCheck => ⟨0xFFFFFFFF, 0x42000000⟩
  | .stepSendByte => ⟨0xFFFFFFFF, 0x43000000⟩
  | .stepDataAckPrep => ⟨0xFFFFFFFF, 0x44000000⟩
  | .stepDataAckCheck => ⟨0xFFFFFFFF, 0x45000000⟩
  | .stepReceiveByte => ⟨0xFFFFFFFF, 0x46000000⟩
  | .stepReceiveStore => ⟨0xFFFFFFFF, 0x47000000⟩
  | .stepRxAckSent => ⟨0xFFFFFFFF, 0x48000000⟩
  | .stepPrepareStop => ⟨0xFFFFFFFF, 0x49000000⟩
  | .stepStop => ⟨0xFFFFFFFF, 0x4A000000⟩
  | .shiftComplete => ⟨0xFFFFFFFF, 0x50000000⟩
  | .schedIter => ⟨0xFFFFFFFF, 0x60000000⟩
  | .lpmWait => ⟨0xFFFFFFFF, 0x61000000⟩
  | .extStimulus => ⟨0xFFFFFFFF, 0x70000000⟩

/-- The fixed bits of an operation's word are those of its row (R89, R91). -/
def Statement (i : Instr) : Prop := encode i &&& (row i).mask = (row i).value

/-- Two 32-bit words agree when they agree at every bit. -/
theorem word_ext {x y : Word} (h : ∀ k : Fin 32, x.getLsbD k.val = y.getLsbD k.val) : x = y :=
  BitVec.eq_of_getLsbD_eq fun k hk => h ⟨k, hk⟩

/-- A mask that covers no operand bit keeps exactly the operation byte. -/
theorem op_of_mask (op : Byte) (x : BitVec 24) : wordOf op x &&& 0xFF000000 = wordOf op 0 := by
  refine word_ext fun k => ?_
  have hk := k.isLt
  rw [BitVec.getLsbD_and, show (wordOf op x).getLsbD k.val = _ from BitVec.getLsbD_append .., show
    (wordOf op 0).getLsbD k.val = _ from BitVec.getLsbD_append ..]
  by_cases h : k.val < 24
  · have : (0xFF000000 : Word).getLsbD k.val = false := by
      revert h; revert k; decide
    rw [this]
    simp [h]
  · have : (0xFF000000 : Word).getLsbD k.val = true := by
      revert h; revert k; decide
    rw [this]
    simp [h]

/-- The fixed bits of format MA (R89): the operation byte and eight zeros. -/
theorem op_of_mask_ma (op : Byte) (a : Half) : wordOf op (0#8 ++ a) &&& 0xFFFF0000 = wordOf op 0 := by
  refine word_ext fun k => ?_
  have hk := k.isLt
  rw [BitVec.getLsbD_and, show (wordOf op (0#8 ++ a)).getLsbD k.val = _ from BitVec.getLsbD_append .., show
    (wordOf op 0).getLsbD k.val = _ from BitVec.getLsbD_append ..]
  by_cases h : k.val < 16
  · have : (0xFFFF0000 : Word).getLsbD k.val = false := by
      revert h; revert k; decide
    rw [this]
    simp [show k.val < 24 by omega]
  · have : (0xFFFF0000 : Word).getLsbD k.val = true := by
      revert h; revert k; decide
    rw [this]
    by_cases h24 : k.val < 24
    · rw [show (0#8 ++ a : BitVec 24).getLsbD k.val = _ from BitVec.getLsbD_append ..]
      simp [h, h24]
    · simp [h24]

theorem issueStart : Statement .issueStart := rfl
theorem sendByte (b : Byte) : Statement (.sendByte b) := by unfold Statement; revert b; decide
theorem receiveByte : Statement .receiveByte := rfl
theorem readReceivedByte : Statement .readReceivedByte := rfl
theorem prepareStopOrRestart (isStop : Bool) : Statement (.prepareStopOrRestart isStop) := by cases isStop <;> rfl
theorem issueStop : Statement .issueStop := rfl
theorem prepareAckPhase : Statement .prepareAckPhase := rfl
theorem readAckBit : Statement .readAckBit := rfl
theorem sendAckBit (isNack : Bool) : Statement (.sendAckBit isNack) := by cases isNack <;> rfl
theorem start (d : Option DescRef) : Statement (.start d) := by unfold Statement; revert d; decide
theorem resume : Statement .resume := rfl
theorem forceStop : Statement .forceStop := rfl
theorem getError : Statement .getError := rfl
theorem isBusy : Statement .isBusy := rfl
theorem acquire : Statement .acquire := rfl
theorem release : Statement .release := rfl
theorem raiseEvent : Statement .raiseEvent := rfl
theorem clearEvent : Statement .clearEvent := rfl
theorem checkEvent : Statement .checkEvent := rfl
theorem descRead (d : DescRef) (f : Field) : Statement (.descRead d f) := by unfold Statement; cases f <;> revert d <;> decide
theorem descWrite (d : DescRef) (f : Field) (v : Half) : Statement (.descWrite d f v) := op_of_mask _ _
theorem memRead (a : Half) : Statement (.memRead a) := op_of_mask_ma _ _
theorem memWrite (a : Half) (v : Byte) : Statement (.memWrite a v) := op_of_mask _ _
theorem stepStart : Statement .stepStart := rfl
theorem stepAddrAckPrep : Statement .stepAddrAckPrep := rfl
theorem stepAddrAckCheck : Statement .stepAddrAckCheck := rfl
theorem stepSendByte : Statement .stepSendByte := rfl
theorem stepDataAckPrep : Statement .stepDataAckPrep := rfl
theorem stepDataAckCheck : Statement .stepDataAckCheck := rfl
theorem stepReceiveByte : Statement .stepReceiveByte := rfl
theorem stepReceiveStore : Statement .stepReceiveStore := rfl
theorem stepRxAckSent : Statement .stepRxAckSent := rfl
theorem stepPrepareStop : Statement .stepPrepareStop := rfl
theorem stepStop : Statement .stepStop := rfl
theorem shiftComplete : Statement .shiftComplete := rfl
theorem schedIter : Statement .schedIter := rfl
theorem lpmWait : Statement .lpmWait := rfl
theorem extStimulus : Statement .extStimulus := rfl

end Sys2Proof.Laws.EncodesItsRow
end

