-- ==== Sys2Proof/Laws/Step.lean ====
section
/-! SUPPORT. One lemma that says everything a step of the machine can do, the operation each turn runs, and the lemmas of runs,
of their end and of a hang. -/

namespace Sys2Proof.Machine

/-- How a turn comes to run an operation at a state. -/
inductive Runs (s : State) : Turn → Instr → Prop
  /-- R92, R93 -/
  | foreground (w : Word) (i : Instr) (ha : s.asleep = false) (hd : decode s.cfg w = .ok i) (hi : i.issuable = true) :
      Runs s (.foreground w) i
  /-- R126 -/
  | engine (i : Instr) (h : s.signalled = true) (hi : s.pstate.stepInstr = some i) : Runs s .engine i
  /-- R93, log entry 8 -/
  | primitive (w : Word) (i : Instr) (hd : decode s.cfg w = .ok i) (hi : i.isPrimitive = true) :
      Runs s (.primitive w) i
  /-- R112 -/
  | shifter : Runs s .shifter .shiftComplete
  /-- R179 -/
  | environment : Runs s .environment .extStimulus

/-- The normal ends of a turn. -/
inductive TurnEnd (s t : State) (x : Turn) : Prop
  | ran (i : Instr) (hr : Runs s x i) (h : exec i s = .next t)
  /-- R207 -/
  | refused (w : Word) (hx : x = .foreground w ∨ x = .primitive w) (ht : t = { s with refused := some w })
  /-- R208 -/
  | reservedState (k : Fin 5) (hx : x = .engine) (hp : s.pstate = .reserved k)
      (ht : t = { s with faults :=
        [{ fault := .reservedState (PState.reserved k).code, agent := .engine, op := stepWord (.reserved k) }] })
  /-- R177 -/
  | returned (hx : x = .contReturn) (ht : t = { s with fgPos := .loop })

theorem fetch_running {s : State} {x : Turn} {rest : List Turn} (h : s.Running) (ha : s.agenda = x :: rest) :
    fetch s = fetchTurn x (s.setAgenda rest) := by
  simp [fetch, halted_of_running h, ha]

/-- The inversion of `step`: it takes one turn off the schedule and ends in one of the turn's normal ends. -/
theorem step_next {s t : State} (h : step s = .next t) :
    s.Running ∧ ∃ x rest, s.agenda = x :: rest ∧ TurnEnd { s with agenda := rest } t x := by
  unfold step fetch at h
  cases hh : s.halted with
  | some f => simp [hh] at h
  | none =>
    have hr := halted_eq_none.mp hh
    refine ⟨hr, ?_⟩
    cases ha : s.agenda with
    | nil => simp [hh, ha] at h
    | cons x rest =>
      refine ⟨x, rest, rfl, ?_⟩
      simp only [hh, ha] at h
      have hr' : (s.setAgenda rest).Running := hr
      rw [show ({ s with agenda := rest } : State) = s.setAgenda rest from rfl]
      generalize s.setAgenda rest = s at h hr' ⊢
      cases x with
      | foreground w =>
        simp only [fetchTurn, fetchForeground] at h
        cases hs : s.asleep with
        | true => simp [hs] at h
        | false =>
          simp only [hs] at h
          cases hd : decode s.cfg w with
          | error e =>
            simp [hd, refuseWord, State.refuse, hr'.2] at h
            exact .refused w (.inl rfl) h.symm
          | ok i =>
            cases hi : i.issuable with
            | true => simp [hd, hi] at h; exact .ran i (.foreground w i hs hd hi) h
            | false =>
              simp [hd, hi, refuseWord, State.refuse, hr'.2] at h
              exact .refused w (.inl rfl) h.symm
      | engine =>
        simp only [fetchTurn, fetchEngine] at h
        cases hs : s.signalled with
        | false => simp [hs] at h
        | true =>
          simp only [hs] at h
          cases hi : s.pstate.stepInstr with
          | some i => simp [hi] at h; exact .ran i (.engine i hs hi) h
          | none =>
            have : ∃ k, s.pstate = .reserved k := by
              cases hp : s.pstate <;> simp [hp, PState.stepInstr] at hi
              exact ⟨_, rfl⟩
            obtain ⟨k, hk⟩ := this
            simp only [hi, if_true, takeFault_eq hr', Host.Outcome.next.injEq] at h
            exact .reservedState k rfl hk (by rw [← h, hk])
      | primitive w =>
        simp only [fetchTurn, fetchPrimitive] at h
        cases hd : decode s.cfg w with
        | error e =>
          simp [hd, refuseWord, State.refuse, hr'.2] at h
          exact .refused w (.inr rfl) h.symm
        | ok i =>
          cases hi : i.isPrimitive with
          | true => simp [hd, hi] at h; exact .ran i (.primitive w i hd hi) h
          | false =>
            simp [hd, hi, refuseWord, State.refuse, hr'.2] at h
            exact .refused w (.inr rfl) h.symm
      | shifter => exact .ran _ .shifter h
      | environment => exact .ran _ .environment h
      | contReturn =>
        simp only [fetchTurn, fetchContReturn] at h
        cases hs : s.asleep with
        | true => simp [hs] at h
        | false =>
          cases hp : s.fgPos with
          | loop => simp [hs, hp] at h
          | continuation c d => simp [hs, hp] at h; exact .returned rfl h.symm

/-! ### Runs -/

theorem State.Reaches.refl (s : State) : s.Reaches s := ⟨0, rfl⟩

theorem State.Reaches.head {s u t : State} (h : step s = .next u) (hr : u.Reaches t) : s.Reaches t := by
  obtain ⟨n, hn⟩ := hr
  exact ⟨n + 1, by simpa only [Host.Core.run, show core.step s = .next u from h] using hn⟩

/-- A state on the run from `s` is `s` or stands on the run from its next state. -/
theorem State.Reaches.cases {s t : State} (h : s.Reaches t) : t = s ∨ ∃ u, step s = .next u ∧ u.Reaches t := by
  obtain ⟨n, hn⟩ := h
  cases n with
  | zero => cases hn; exact .inl rfl
  | succ n =>
    cases hs : core.step s with
    | next u => exact .inr ⟨u, hs, n, by simpa only [Host.Core.run, hs] using hn⟩
    | fault r => simp only [Host.Core.run, hs] at hn; cases hn
    | refused r => simp only [Host.Core.run, hs] at hn; cases hn

/-- The premises of progress hold along the run. -/
theorem State.BusCompletes.next {s u : State} (h : s.BusCompletes) (hs : step s = .next u) : u.BusCompletes :=
  fun t ht => h t (ht.head hs)

theorem State.EngineServed.next {s u : State} (h : s.EngineServed) (hs : step s = .next u) : u.EngineServed :=
  fun t ht => h t (ht.head hs)

/-- The premises of progress hold of a run that stops with no shift in flight and no signal waiting, -/
theorem State.BusCompletes.of_stopped {s : State} (hs : s.shift = none) (hn : ∀ t, step s ≠ .next t) : s.BusCompletes := by
  intro t ht h
  obtain rfl | ⟨u, hu, -⟩ := ht.cases
  · exact absurd hs h
  · exact absurd hu (hn u)

theorem State.EngineServed.of_stopped {s : State} (hs : s.signalled = false) (hn : ∀ t, step s ≠ .next t) :
    s.EngineServed := by
  intro t ht h
  obtain rfl | ⟨u, hu, -⟩ := ht.cases
  · exact absurd (hs.symm.trans h) nofun
  · exact absurd hu (hn u)

/-- and of a run from `s` when they hold from its next state. -/
theorem State.BusCompletes.of_next {s u : State} (hs : step s = .next u) (h : u.BusCompletes) : s.BusCompletes := by
  intro t ht hne
  obtain rfl | ⟨v, hv, hr⟩ := ht.cases
  · by_cases hc : u.shift = none
    · exact ⟨u, .head hs (.refl u), .inl hc⟩
    · obtain ⟨w, hw, hc⟩ := h u (.refl u) hc
      exact ⟨w, .head hs hw, hc⟩
  · cases hs.symm.trans hv; exact h t hr hne

theorem State.EngineServed.of_next {s u : State} (hs : step s = .next u) (h : u.EngineServed) : s.EngineServed := by
  intro t ht hne
  obtain rfl | ⟨v, hv, hr⟩ := ht.cases
  · cases hc : u.signalled with
    | false => exact ⟨u, .head hs (.refl u), .inl hc⟩
    | true =>
      obtain ⟨w, hw, hc⟩ := h u (.refl u) hc
      exact ⟨w, .head hs hw, hc⟩
  · cases hs.symm.trans hv; exact h t hr hne

/-- R116: where the run stops in a state that has not halted, the bus has completed and no signal waits. -/
theorem shift_none_of_stopped {s : State} (hb : s.BusCompletes) (hr : s.Running) (hn : ∀ t, step s ≠ .next t) :
    s.shift = none := by
  apply Classical.byContradiction
  intro h
  obtain ⟨u, hu, hc⟩ := hb s (.refl s) h
  obtain rfl | ⟨v, hv, -⟩ := hu.cases
  · exact hc.elim h (fun h => h hr)
  · exact hn v hv

theorem signalled_false_of_stopped {s : State} (he : s.EngineServed) (hr : s.Running) (hn : ∀ t, step s ≠ .next t) :
    s.signalled = false := by
  apply Classical.byContradiction
  intro h
  obtain ⟨u, hu, hc⟩ := he s (.refl s) (by simpa using h)
  obtain rfl | ⟨v, hv, -⟩ := hu.cases
  · exact hc.elim h (fun h => h hr)
  · exact hn v hv

/-- R191, R240: no agent steps at the end of a run or in a hang. -/
theorem step_ne_next_of_quiet {s t : State} (ha : s.AgentTurn) (hs : s.signalled = false)
    (hc : s.shift ≠ none → .shifter ∉ s.agenda) (he : s.asleep = true → .environment ∉ s.agenda)
    (hf : s.asleep = false → s.noHostTurn = true) : step s ≠ .next t := by
  intro h
  obtain ⟨-, x, rest, hx, hd⟩ := step_next h
  have hmem : x ∈ s.agenda := by simp [hx]
  have hhost : s.asleep = false → x.isHostProgram = false := fun h => by
    simpa using List.all_eq_true.mp (hf h) x hmem
  cases hd with
  | ran i hr h =>
    cases hr with
    | foreground w i has => exact absurd (hhost has) nofun
    | engine i hsig => exact absurd (hs.symm.trans hsig) nofun
    | primitive w => exact ha w (by simp [hx])
    | shifter =>
      obtain ⟨-, op, hop, -⟩ := execShiftComplete_next h
      exact hc (by rw [show s.shift = some op from hop]; nofun) hmem
    | environment => exact he (execExtStimulus_next h).2.1 hmem
  | refused w hw =>
    rcases hw with rfl | rfl
    · cases has : s.asleep with
      | false => exact absurd (hhost has) nofun
      | true =>
        simp [step, fetch_running (step_next h).1 hx, fetchTurn, fetchForeground, has] at h
    · exact ha w (by simp [hx])
  | reservedState k hxe =>
    subst hxe
    have hs' : (s.setAgenda rest).signalled = false := hs
    simp [step, fetch_running (step_next h).1 hx, fetchTurn, fetchEngine, hs'] at h
  | returned hxc =>
    subst hxc
    cases has : s.asleep with
    | false => exact absurd (hhost has) nofun
    | true => simp [step, fetch_running (step_next h).1 hx, fetchTurn, fetchContReturn, has] at h

theorem step_ne_next_of_ended {s t : State} (ha : s.AgentTurn) (h : s.Ended) : step s ≠ .next t :=
  step_ne_next_of_quiet ha h.2.2.2 (fun hs => absurd h.2.2.1 hs) (fun he => by simp [h.2.1.1] at he)
    (fun _ => h.2.1.2.2)

theorem step_ne_next_of_hung {s t : State} (ha : s.AgentTurn) (h : s.Hung) : step s ≠ .next t :=
  step_ne_next_of_quiet ha h.2.2.1 h.2.2.2.1 h.2.2.2.2.1 h.2.2.2.2.2

end Sys2Proof.Machine
end

