-- ==== Sys2Proof/Tests/Slice0.lean ====
section
/-! SUPPORT. The model's own tests. Expected results are those of spec/95_test_vectors.md (its vector ids stand in the
names) and the words of 30 R89 to R97, written out bit by bit; the witnesses at the end meet the hypotheses of the
statements. -/

namespace Sys2Proof.Tests

open Sys2Proof Sys2Proof.Machine

/-! ### Helpers -/

/-- The parameters of spec/95_test_vectors.md §0. -/
def cfg : Config := { Config.default with admitted := [⟨0x0200, 0x03FF⟩], contIds := [⟨1, 3⟩] }

/-- The start state of spec/95_test_vectors.md §0. -/
def base : State := State.resetWith cfg []

/-- A descriptor with a NULL continuation. -/
def descr (a : Byte) (k : Kind) (r c : Half) : Desc :=
  { addr := some a, rem := some r, kind := some k, cur := some c, cont := some .null }

/-- `DESC[0]` live, owned by the foreground. -/
def live (x : Desc) : State := { base with descs := base.descs.set 0 x, live := some 0 }

/-- The engine signalled in a protocol state with `DESC[0]` live, an ACK in `SR` and the bus active. -/
def engineAt (p : PState) (x : Desc) : State :=
  { live x with sigEn := true, sigPend := true, pstate := p, sr := some 0, ghostDir := some .w, buscond := .active }

/-- The engine signalled at START with an idle bus. -/
def startAt (x : Desc) : State := { engineAt .start x with buscond := .idle }

/-- A Boolean check of a next state. -/
def next (o : Host.Outcome State Fault Refusal) (f : State → Bool) : Bool :=
  match o with
  | .next t => f t
  | .fault _ => false
  | .refused _ => false

/-- The step left exactly this fault (R196). -/
def faults (o : Host.Outcome State Fault Refusal) (f : ModelFault) : Bool :=
  next o (fun t => t.faults.map FaultRecord.fault == [f])

/-- The decoder refuses a word under the test parameters. -/
def refuses (w : Word) : Bool :=
  match decode cfg w with
  | .ok _ => false
  | .error _ => true

/-! ### WellFormed: each check refuses an ill-formed term -/

theorem test_wf_start_missing_descriptor : Instr.wf cfg (.start (some 1)) = false := by decide
theorem test_wf_descRead_missing_descriptor : Instr.wf cfg (.descRead 1 .rem) = false := by decide
theorem test_wf_descWrite_missing_descriptor : Instr.wf cfg (.descWrite 1 .rem 0) = false := by decide
theorem test_wf_descWrite_addr_above_byte : Instr.wf cfg (.descWrite 0 .addr 0x1D0) = false := by decide
theorem test_wf_descWrite_reserved_kind : Instr.wf cfg (.descWrite 0 .kind 7) = false := by decide
theorem test_wf_descWrite_unknown_continuation : Instr.wf cfg (.descWrite 0 .cont 4) = false := by decide
theorem test_wf_descWrite_known_continuation : Instr.wf cfg (.descWrite 0 .cont 3) = true := by decide

/-! ### Decoding: words written out from the encoding tables of spec 30 (R89 to R91) -/

theorem test_decode_primitives :
    decode cfg 0b00000000_000000000000000000000000 = .ok .issueStart ∧
    decode cfg 0b00000001_0000000000000000_10100101 = .ok (.sendByte 0xA5) ∧
    decode cfg 0b00000010_000000000000000000000000 = .ok .receiveByte ∧
    decode cfg 0b00000011_000000000000000000000000 = .ok .readReceivedByte ∧
    decode cfg 0b00000100_000000000000000000000000 = .ok (.prepareStopOrRestart false) ∧
    decode cfg 0b00000101_000000000000000000000000 = .ok (.prepareStopOrRestart true) ∧
    decode cfg 0b00000110_000000000000000000000000 = .ok .issueStop ∧
    decode cfg 0b00000111_000000000000000000000000 = .ok .prepareAckPhase ∧
    decode cfg 0b00001000_000000000000000000000000 = .ok .readAckBit ∧
    decode cfg 0b00001010_000000000000000000000000 = .ok (.sendAckBit false) ∧
    decode cfg 0b00001011_000000000000000000000000 = .ok (.sendAckBit true) := by decide

theorem test_decode_interface :
    decode cfg 0b00010000_0000_00000000000000000000 = .ok (.start (some 0)) ∧
    decode cfg 0b00010000_1111_00000000000000000000 = .ok (.start none) ∧
    decode { cfg with nDesc := 15 } 0b00010000_1110_00000000000000000000 = .ok (.start (some 14)) ∧
    decode cfg 0b00010001_000000000000000000000000 = .ok .resume ∧
    decode cfg 0b00010010_000000000000000000000000 = .ok .forceStop ∧
    decode cfg 0b00010011_000000000000000000000000 = .ok .getError ∧
    decode cfg 0b00100000_000000000000000000000000 = .ok .isBusy ∧
    decode cfg 0b00100001_000000000000000000000000 = .ok .acquire ∧
    decode cfg 0b00100010_000000000000000000000000 = .ok .release ∧
    decode cfg 0b00100011_000000000000000000000000 = .ok .raiseEvent ∧
    decode cfg 0b00100100_000000000000000000000000 = .ok .clearEvent ∧
    decode cfg 0b00100101_000000000000000000000000 = .ok .checkEvent := by decide

theorem test_decode_ports :
    decode { cfg with nDesc := 3 } 0b00110000_0010_0001_0000000000000000 = .ok (.descRead 2 .rem) ∧
    decode cfg 0b00110001_0000_0000_0000000011010000 = .ok (.descWrite 0 .addr 0xD0) ∧
    decode cfg 0b00110001_0000_0001_0000000000000011 = .ok (.descWrite 0 .rem 3) ∧
    decode cfg 0b00110001_0000_0010_0000000000000001 = .ok (.descWrite 0 .kind 1) ∧
    decode cfg 0b00110001_0000_0011_0000001000000000 = .ok (.descWrite 0 .cur 0x200) ∧
    decode cfg 0b00110001_0000_0100_0000000000000011 = .ok (.descWrite 0 .cont 3) ∧
    decode cfg 0b00110010_00000000_0000001100000110 = .ok (.memRead 0x306) ∧
    decode cfg 0b00110011_00010010_0000001000000001 = .ok (.memWrite 0x201 0x12) := by decide

theorem test_decode_agents :
    decode cfg 0b01000000_000000000000000000000000 = .ok .stepStart ∧
    decode cfg 0b01000001_000000000000000000000000 = .ok .stepAddrAckPrep ∧
    decode cfg 0b01000010_000000000000000000000000 = .ok .stepAddrAckCheck ∧
    decode cfg 0b01000011_000000000000000000000000 = .ok .stepSendByte ∧
    decode cfg 0b01000100_000000000000000000000000 = .ok .stepDataAckPrep ∧
    decode cfg 0b01000101_000000000000000000000000 = .ok .stepDataAckCheck ∧
    decode cfg 0b01000110_000000000000000000000000 = .ok .stepReceiveByte ∧
    decode cfg 0b01000111_000000000000000000000000 = .ok .stepReceiveStore ∧
    decode cfg 0b01001000_000000000000000000000000 = .ok .stepRxAckSent ∧
    decode cfg 0b01001001_000000000000000000000000 = .ok .stepPrepareStop ∧
    decode cfg 0b01001010_000000000000000000000000 = .ok .stepStop ∧
    decode cfg 0b01010000_000000000000000000000000 = .ok .shiftComplete ∧
    decode cfg 0b01100000_000000000000000000000000 = .ok .schedIter ∧
    decode cfg 0b01100001_000000000000000000000000 = .ok .lpmWait ∧
    decode cfg 0b01110000_000000000000000000000000 = .ok .extStimulus := by decide

/-- Vectors I4, I7, I14, I15, I16, I24, I25. -/
theorem test_refused_words :
    refuses 0x10100000 = true ∧ refuses 0x11000001 = true ∧ refuses 0x31020007 = true ∧ refuses 0x310001D0 = true ∧
    refuses 0x31050000 = true ∧ refuses 0x32010201 = true ∧ refuses 0x09000000 = true ∧ refuses 0x30F10000 = true := by
  decide

/-- Vectors I26 and I27: a primitive and an agent-step word from a program are refused. -/
theorem test_refused_from_a_program :
    next (step { base with agenda := [.foreground 0x01000055] }) (fun t => t.refused == some 0x01000055) = true ∧
    next (step { base with agenda := [.foreground 0x40000000] }) (fun t => t.refused == some 0x40000000) = true := by
  decide

/-! ### Primitives and the shifter -/

theorem test_B1_issueStart : next (exec .issueStart base)
    (fun t => t.trace == [.start] && t.buscond == .active && t.sigPend) = true := by decide
theorem test_B2_issueStart : next (exec .issueStart { base with buscond := .restartReady })
    (fun t => t.trace == [.rstart] && t.buscond == .active) = true := by decide
theorem test_B4_sendByte : next (exec (.sendByte 0xFF) base)
    (fun t => t.shift == some (.tx8 0xFF) && !t.sigPend && t.trace == []) = true := by decide
theorem test_B5_sendByte : faults (exec (.sendByte 0) { base with shift := some .rx1 }) (.shiftOverlap (.tx8 0)) =
    true := by decide
theorem test_B6_receiveByte : next (exec .receiveByte base) (fun t => t.shift == some .rx8 && !t.sigPend) = true := by
  decide
theorem test_B7_prepareStopOrRestart : next (exec (.prepareStopOrRestart true) base)
    (fun t => t.shift == some (.prep true)) = true := by decide
theorem test_B9_issueStop : next (exec .issueStop { base with buscond := .stopReady })
    (fun t => t.trace == [.stop] && t.buscond == .idle && t.sigPend) = true := by decide
theorem test_B10_issueStop : faults (exec .issueStop { base with buscond := .active })
    (.busConditionViolation .stop) = true := by decide
theorem test_B11_prepareAckPhase : next (exec .prepareAckPhase base) (fun t => t.shift == some .rx1) = true := by decide
theorem test_B12_readAckBit : faults (exec .readAckBit base) (.unwrittenRead .sr) = true := by decide
theorem test_B14_readReceivedByte : next (exec .readReceivedByte { base with sr := some 0xA5 })
    (fun t => t == { base with sr := some 0xA5 }) = true := by decide
theorem test_B15_sendAckBit : next (exec (.sendAckBit true) base) (fun t => t.shift == some (.tx1 true)) = true := by
  decide
theorem test_B17_shiftComplete : next (exec .shiftComplete { base with shift := some .rx1, sigPend := false, draws := [1] })
    (fun t => t.trace == [.ackIn true] && t.sr == some 1 && t.shift == none && t.sigPend) = true := by decide
theorem test_B21_shiftComplete :
    next (exec .shiftComplete { base with shift := some (.prep false), buscond := .active, draws := [0] })
      (fun t => t.trace == [.prepRestart] && t.buscond == .restartReady) = true := by decide

/-! ### Engine steps -/

theorem test_E5_stepStart :
    next (exec .stepStart (startAt { descr 0xD0 .sendThenStop 0 0 with rem := none, cur := none }))
      (fun t => t.trace == [.start] && t.shift == some (.tx8 0xD0) && !t.sigPend && t.ghostDir == some .w &&
        t.pstate == .addrAckPrep) = true := by decide
theorem test_E29_stepStart :
    next (exec .stepStart { startAt (descr 0xD1 .receiveThenStop 1 0x200) with cfg := { cfg with addrRwOnWire := .zero } })
      (fun t => t.shift == some (.tx8 0xD0) && (t.desc 0).addr == some 0xD1 && t.ghostDir == some .r) = true := by decide
theorem test_R128_stepAddrAckPrep : next (exec .stepAddrAckPrep (engineAt .addrAckPrep Desc.unwritten))
    (fun t => t.shift == some .rx1 && t.pstate == .addrAckCheck) = true := by decide
theorem test_E10_stepAddrAckCheck :
    next (exec .stepAddrAckCheck { engineAt .addrAckCheck (descr 0xD0 .sendThenRestart 1 0x200) with sr := some 1 })
      (fun t => t.err == 1 && t.nackf && t.shift == some (.prep true) && t.pstate == .stop && !t.event) = true := by decide
theorem test_E8_stepAddrAckCheck :
    next (exec .stepAddrAckCheck (engineAt .addrAckCheck (descr 0xD0 .sendThenSuspend 0 0x200)))
      (fun t => t.event && !t.sigEn && t.pstate == .addrAckCheck && t.sigPend && t.shift == none) = true := by decide
theorem test_E16_stepSendByte :
    next (exec .stepSendByte { engineAt .sendByte (descr 0xD0 .sendThenStop 0xFFFF 0xFFFF) with cfg := Config.default })
      (fun t => (t.desc 0).cur == some 0 && (t.desc 0).rem == some 0xFFFE && t.pstate == .dataAckPrep) = true := by decide
theorem test_E12_stepSendByte : faults (exec .stepSendByte (engineAt .sendByte (descr 0xD0 .sendThenStop 3 0x100)))
    (.bufferNotAdmitted 0x100) = true := by decide
theorem test_R134_stepDataAckPrep : next (exec .stepDataAckPrep (engineAt .dataAckPrep Desc.unwritten))
    (fun t => t.shift == some .rx1 && t.pstate == .dataAckCheck) = true := by decide
theorem test_E15_stepDataAckCheck :
    next (exec .stepDataAckCheck
        { engineAt .dataAckCheck (descr 0xD0 .sendThenStop 0xFFFF 0x3FF) with hmem := [(0x3FF, 0x77)] })
      (fun t => t.shift == some (.tx8 0x77) && (t.desc 0).rem == some 0xFFFE && (t.desc 0).cur == some 0x400) = true := by
  decide
theorem test_E14_stepDataAckCheck :
    faults (exec .stepDataAckCheck (engineAt .dataAckCheck (descr 0xD1 .receiveThenStop 1 0x200))) .directionChanged =
      true := by decide
theorem test_R136_stepReceiveByte : next (exec .stepReceiveByte (engineAt .receiveByte Desc.unwritten))
    (fun t => t.shift == some .rx8 && t.pstate == .receiveStore) = true := by decide
theorem test_E18_stepReceiveStore :
    next (exec .stepReceiveStore
        { engineAt .receiveStore (descr 0xD1 .receiveThenStop 1 0x306) with sr := some 7, ghostDir := some .r })
      (fun t => t.hmem == [(0x306, 7)] && (t.desc 0).rem == some 0 && (t.desc 0).cur == some 0x307 &&
        t.shift == some (.tx1 true) && t.pstate == .rxAckSent) = true := by decide
theorem test_E20_stepReceiveStore :
    next (exec .stepReceiveStore
        { engineAt .receiveStore (descr 0xD1 .receiveThenSuspend 1 0x306) with sr := some 7, ghostDir := some .r })
      (fun t => t.shift == some (.tx1 false)) = true := by decide
theorem test_E23_stepRxAckSent :
    next (exec .stepRxAckSent { engineAt .rxAckSent (descr 0xD1 .receiveThenStop 0 0x307) with ghostDir := some .r })
      (fun t => t.shift == some (.prep true) && t.pstate == .stop) = true := by decide
theorem test_E24_stepRxAckSent :
    next (exec .stepRxAckSent { engineAt .rxAckSent (descr 0xD1 .receiveThenStop 6 0x301) with ghostDir := some .r })
      (fun t => t.shift == some .rx8 && t.pstate == .receiveStore) = true := by decide
theorem test_R140_stepPrepareStop :
    next (exec .stepPrepareStop (engineAt .prepareStop (descr 0xD0 .sendThenRestart 0 0x200)))
      (fun t => t.shift == some (.prep false) && t.event && !t.sigEn && t.pstate == .start) = true := by decide
theorem test_E28_stepStop :
    next (exec .stepStop { engineAt .stop Desc.unwritten with buscond := .stopReady, asleep := true })
      (fun t => t.trace == [.stop] && t.buscond == .idle && t.event && !t.sigEn && t.pstate == .start && t.sigPend &&
        !t.asleep) = true := by decide
theorem test_E27_reserved_state :
    faults (step { engineAt (.reserved 1) Desc.unwritten with agenda := [.engine] }) (.reservedState 12) = true := by decide

/-! ### Foreground operations -/

theorem test_I1_start_null : next (exec (.start none) base) (fun t => t == { base with rv := some 1 }) = true := by decide
theorem test_I3_start : faults (exec (.start (some 0)) { base with sigEn := true }) (.ownershipViolation .start) = true := by
  decide
theorem test_I5_resume : faults (exec .resume base) .noLiveDescriptor = true := by decide
theorem test_I8_forceStop : next (exec .forceStop { live (descr 0xD0 .sendThenStop 5 0x200) with sigEn := true })
    (fun t => (t.desc 0).rem == some 0 && t.sigEn) = true := by decide
theorem test_I10_getError : next (exec .getError { base with err := 1, event := true, busy := true })
    (fun t => t.status == 0x31 && t.rv == some 1) = true := by decide
theorem test_I12_descRead : faults (exec (.descRead 0 .rem) base) (.unwrittenRead (.descField 0 .rem)) = true := by decide
theorem test_I13_descRead : next (exec (.descRead 0 .cont) (live (descr 0xD0 .idle 0 0))) (fun t => t.rv == some 0) =
    true := by decide
theorem test_I18_descWrite : faults (exec (.descWrite 0 .rem 1) { live Desc.unwritten with sigEn := true })
    (.ownershipViolation .descWrite) = true := by decide
theorem test_I20_descWrite : next (exec (.descWrite 0 .rem 0xFFFF) base) (fun t => (t.desc 0).rem == some 0xFFFF) = true := by
  decide
theorem test_I22_memWrite : faults (exec (.memWrite 0x400 0x12) base) (.bufferNotAdmitted 0x400) = true := by decide
theorem test_I21_memWrite : next (exec (.memWrite 0x201 0x12) base) (fun t => t.hmem == [(0x201, 0x12)]) = true := by decide
theorem test_I23_memRead : next (exec (.memRead 0x201) { base with hmem := [(0x201, 0x12)] }) (fun t => t.rv == some 0x12) =
    true := by decide
theorem test_O1_isBusy : next (exec .isBusy base) (fun t => t.rv == some 0) = true := by decide
theorem test_O2_acquire : next (exec .acquire base) (fun t => t.busy && t.status == 0x20) = true := by decide
theorem test_O3_acquire : faults (exec .acquire { base with busy := true }) .acquireWhileBusy = true := by decide
theorem test_O5_release : next (exec .release { base with busy := true }) (fun t => !t.busy) = true := by decide
theorem test_O7_raiseEvent : next (exec .raiseEvent base) (fun t => t.event) = true := by decide
theorem test_O9_clearEvent : next (exec .clearEvent { base with event := true }) (fun t => !t.event) = true := by decide
theorem test_O8_checkEvent : next (exec .checkEvent { base with event := true }) (fun t => t.rv == some 1 && t.event) =
    true := by decide
theorem test_Q2_schedIter :
    next (exec .schedIter { live (descr 0xD0 .sendThenStop 0 0x200) with event := true, busy := true })
      (fun t => !t.event && !t.busy && (t.desc 0).kind == some .idle) = true := by decide
theorem test_Q6_schedIter :
    next (exec .schedIter { live { descr 0xD0 .sendThenStop 0 0 with cont := some (.ref 2) } with event := true })
      (fun t => !t.event && t.fgPos == .continuation 2 0) = true := by decide
theorem test_Q7_lpmWait : next (exec .lpmWait { base with event := true }) (fun t => t.asleep) = true := by decide
theorem test_Q8_lpmWait :
    next (exec .lpmWait { base with event := true, cfg := { cfg with idleCheckAtomic := true } }) (fun t => !t.asleep) =
      true := by decide
theorem test_Q9_extStimulus : next (exec .extStimulus { base with asleep := true }) (fun t => !t.asleep) = true := by decide

/-- R219: a power loss resets every register and keeps the parameters. -/
theorem test_R219_power_loss : ({ live (descr 0xD0 .idle 0 0) with busy := true } : State).afterPowerLoss = base := by decide

/-- R25: the descriptor of the source's write scenario is well formed, and not with the read bit set. -/
theorem test_R25_well_formed :
    (descr 0xD0 .sendThenStop 3 0x200).wellFormed = true ∧ (descr 0xD1 .sendThenStop 3 0x200).wellFormed = false := by decide

/-! ### Witnesses: states and operands that meet the hypotheses of each statement, clause by clause -/

/-- R240: the reset state with no program is the end of a run, and a clean one; a shift in flight is not. -/
theorem test_R240_end_of_run :
    base.EndedCleanly ∧ ¬ ({ base with shift := some .rx8, sigPend := false } : State).Ended :=
  ⟨⟨⟨⟨rfl, rfl⟩, ⟨rfl, rfl, rfl⟩, rfl, rfl⟩, rfl, rfl, rfl⟩, fun h => nomatch h.2.2.1⟩

/-- R240: asleep with no stimulus to come is a hang, not an end; with a stimulus to come it is neither. -/
theorem test_R240_hang :
    let s : State := { base with asleep := true }
    s.Hung ∧ ¬ s.Ended ∧ ¬ (s.setAgenda [.environment]).Hung :=
  have h : ¬ State.Ended { base with asleep := true } := fun h => absurd h.2.1.1 (by decide)
  ⟨⟨⟨rfl, rfl⟩, h, rfl, fun h => absurd rfl h, fun _ => List.not_mem_nil, fun h => absurd h (by decide)⟩, h,
    fun h => h.2.2.2.2.1 rfl (.head _)⟩

/-- A state in which `DESC[0]` is live and the engine does not own it is ready for the foreground. -/
theorem ready_live (x : Desc) : (live x).ForegroundReady := ⟨⟨rfl, rfl⟩, rfl⟩

theorem ready_engineAt (p : PState) (x : Desc) : (engineAt p x).EngineReady p := ⟨⟨rfl, rfl⟩, rfl, rfl, rfl⟩

theorem ready_startAt (x : Desc) : (startAt x).EngineReady .start := ⟨⟨rfl, rfl⟩, rfl, rfl, rfl⟩

theorem running_base : base.Running := ⟨rfl, rfl⟩

/-- The last slot and the largest operands. -/
theorem witness_DecodeOfEncodeIsTheOperation :
    Instr.wf { cfg with nDesc := 15 } (.descWrite 14 .cont 3) = true ∧ Instr.wf cfg (.memWrite 0xFFFF 0xFF) = true := by
  decide

theorem witness_AcceptedWordIsItsOperationsWord : decode cfg 0x33FFFFFF = .ok (.memWrite 0xFFFF 0xFF) := by decide

/-- One word for each clause: an unlisted byte, a set bit of each format at its edge, the first missing slot, NULL outside
START, field 5, and a value just outside its field. -/
theorem witness_ReservedEncodingsAreRefused :
    (opField 0x09000000).toNat = 0x09 ∧
    (opField 0x70800000).toNat = 0x70 ∧ (0x70800000#32).extractLsb' 0 24 ≠ 0#24 ∧
    opField 0x01000100 = 0x01#8 ∧ (0x01000100#32).extractLsb' 8 16 ≠ 0#16 ∧
    opField 0x10080000 = 0x10#8 ∧ (0x10080000#32).extractLsb' 0 20 ≠ 0#20 ∧
    opField 0x30008000 = 0x30#8 ∧ (0x30008000#32).extractLsb' 0 16 ≠ 0#16 ∧
    opField 0x32010000 = 0x32#8 ∧ (0x32010000#32).extractLsb' 16 8 ≠ 0#8 ∧
    cfg.nDesc ≤ (dField 0x10100000).toNat ∧ dField 0x10100000 ≠ 15#4 ∧
    opField 0x30F00000 = 0x30#8 ∧ dField 0x30F00000 = 15#4 ∧ opField 0x31050000 = 0x31#8 ∧ 5 ≤ (fField 0x31050000).toNat ∧
    fField 0x31000100 = 0#4 ∧ (0x31000100#32).extractLsb' 8 8 ≠ 0#8 ∧
    fField 0x31020008 = 2#4 ∧ (0x31020008#32).extractLsb' 3 13 ≠ 0#13 ∧ (0x31020007#32).extractLsb' 0 3 = 7#3 ∧
    fField 0x31040004 = 4#4 ∧ isContId cfg ((0x31040004#32).extractLsb' 0 16) = false := by decide

theorem witness_StepRunsTheForegroundWord :
    ({ base with agenda := [.foreground 0x20000000] } : State).ForegroundReady ∧
    decode base.cfg 0x20000000 = .ok .isBusy ∧ Instr.issuable .isBusy = true := ⟨⟨⟨rfl, rfl⟩, rfl⟩, by decide, rfl⟩

theorem witness_StepRunsTheAgentsOperation :
    ({ engineAt .start Desc.unwritten with agenda := [.engine] } : State).EngineReady .start ∧
    PState.start.stepInstr = some .stepStart ∧ PState.stop.stepInstr = some .stepStop ∧
    ({ base with agenda := [.shifter] } : State).Running ∧ ({ base with agenda := [.environment] } : State).Running ∧
    decode base.cfg 0x0B000000 = .ok (.sendAckBit true) ∧ Instr.isPrimitive (.sendAckBit true) = true ∧
    ({ base with agenda := [.contReturn], fgPos := .continuation 3 0 } : State).ForegroundReady :=
  ⟨⟨⟨rfl, rfl⟩, rfl, rfl, rfl⟩, rfl, rfl, ⟨rfl, rfl⟩, ⟨rfl, rfl⟩, by decide, rfl, ⟨⟨rfl, rfl⟩, rfl⟩⟩

/-- One refused word for each disjunct, at the ends of the ranges. -/
theorem witness_RefusedWordOnlySetsTheMark :
    ({ base with agenda := [.foreground 0x09000000] } : State).ForegroundReady ∧
    decode cfg 0x09000000 = .error (.unlistedOp 9) ∧ (opField 0x00000000).toNat ≤ 0x0B ∧ (opField 0x0B000000).toNat ≤ 0x0B ∧
    (opField 0x40000000).toNat ∈ List.range' 0x40 11 ∧ (opField 0x4A000000).toNat ∈ List.range' 0x40 11 ∧
    (opField 0x50000000).toNat = 0x50 ∧ (opField 0x70000000).toNat = 0x70 :=
  ⟨⟨⟨rfl, rfl⟩, rfl⟩, by decide, by decide, by decide, by decide, by decide, by decide, by decide⟩

theorem witness_NoStepAfterAFaultOrARefusal :
    (base.faulted .resume .noLiveDescriptor).faults ≠ [] ∧ (base.setRefused 0x09000000).refused ≠ none :=
  ⟨List.cons_ne_nil _ _, Option.some_ne_none _⟩

theorem witness_ReservedProtocolStateFaults :
    ({ engineAt (.reserved 0) Desc.unwritten with agenda := [.engine] } : State).EngineReady (.reserved 0) ∧
    ({ engineAt (.reserved 4) Desc.unwritten with agenda := [.engine] } : State).EngineReady (.reserved 4) :=
  ⟨⟨⟨rfl, rfl⟩, rfl, rfl, rfl⟩, ⟨⟨rfl, rfl⟩, rfl, rfl, rfl⟩⟩

/-- For the arming primitives and their overlap. -/
theorem witness_ArmingPrimitivesArmTheirShift :
    base.Running ∧ base.shift = none ∧ ({ base with shift := some .rx8 } : State).Running :=
  ⟨⟨rfl, rfl⟩, rfl, ⟨rfl, rfl⟩⟩

theorem witness_StartAndStopConditionsFollowTheBus :
    base.Running ∧ base.buscond = .idle ∧ ({ base with buscond := .restartReady } : State).Running ∧
    ({ base with buscond := .active } : State).Running ∧ ({ base with buscond := .stopReady } : State).Running :=
  ⟨⟨rfl, rfl⟩, rfl, ⟨rfl, rfl⟩, ⟨rfl, rfl⟩, ⟨rfl, rfl⟩⟩

theorem witness_ReadingPrimitivesReturnTheShiftRegister :
    ({ base with sr := some 0xFF } : State).Running ∧ base.Running ∧ base.sr = none := ⟨⟨rfl, rfl⟩, ⟨rfl, rfl⟩, rfl⟩

theorem witness_ShiftCompletionActsOnTheBus :
    base.Running ∧ base.shift = none ∧ ({ base with shift := some (.prep true), draws := [0xA5] } : State).Running :=
  ⟨⟨rfl, rfl⟩, rfl, ⟨rfl, rfl⟩⟩

theorem witness_EngineStepIsEnabledExactlyWhenSignalled :
    Instr.stepState .stepStart = some .start ∧ Instr.stepState .stepStop = some .stop := ⟨rfl, rfl⟩

theorem witness_StartActIssuesStartAndAddress :
    let s := startAt (descr 0xD1 .receiveThenStop 7 0x300)
    s.EngineReady .start ∧ s.shift = none ∧ s.live = some 0 ∧ (s.desc 0).kind = some .receiveThenStop ∧
      (s.desc 0).addr = some 0xD1 ∧ dirOf .receiveThenStop = some .r ∧
      (0xD1#8).getLsbD 0 = decide (Dir.r = .r) ∧ s.buscond = .idle :=
  ⟨ready_startAt _, rfl, rfl, rfl, rfl, rfl, rfl, rfl⟩

/-- A state for each check of START. -/
theorem witness_StartActChecksItsDescriptor :
    ({ base with sigEn := true } : State).EngineReady .start ∧
    (startAt Desc.unwritten).EngineReady .start ∧ ((startAt Desc.unwritten).desc 0).kind = none ∧
    ((startAt (descr 0xD0 .idle 0 0)).desc 0).kind = some .idle ∧
    ((startAt (descr 0xD0 .reserved 0 0)).desc 0).kind = some .reserved ∧
    ((startAt { Desc.unwritten with kind := some .sendThenStop }).desc 0).addr = none ∧
    ((startAt (descr 0xD1 .sendThenStop 0 0)).desc 0).addr = some 0xD1 ∧ dirOf .sendThenStop = some .w ∧
    (0xD1#8).getLsbD 0 ≠ decide (Dir.w = .r) :=
  ⟨⟨⟨rfl, rfl⟩, rfl, rfl, rfl⟩, ready_startAt _, rfl, rfl, rfl, rfl, rfl, rfl, by decide⟩

theorem witness_AckPreparationArmsTheAckBit :
    (engineAt .addrAckPrep Desc.unwritten).EngineReady .addrAckPrep ∧ (engineAt .addrAckPrep Desc.unwritten).shift = none ∧
    (engineAt .dataAckPrep Desc.unwritten).EngineReady .dataAckPrep ∧ (engineAt .dataAckPrep Desc.unwritten).shift = none ∧
    ({ engineAt .addrAckPrep Desc.unwritten with shift := some .rx1 } : State).EngineReady .addrAckPrep ∧
    ({ engineAt .dataAckPrep Desc.unwritten with shift := some .rx1 } : State).EngineReady .dataAckPrep :=
  ⟨ready_engineAt _ _, rfl, ready_engineAt _ _, rfl, ⟨⟨rfl, rfl⟩, rfl, rfl, rfl⟩, ⟨⟨rfl, rfl⟩, rfl, rfl, rfl⟩⟩

theorem witness_NackPreparesATrueStop :
    let s : State := { engineAt .addrAckCheck (descr 0xD0 .sendThenRestart 1 0x200) with sr := some 1 }
    let u : State := { engineAt .dataAckCheck (descr 0xD0 .sendThenSuspend 0 0x200) with sr := some 0xFF }
    s.EngineReady .addrAckCheck ∧ u.EngineReady .dataAckCheck ∧ s.shift = none ∧ s.sr = some 1 ∧
      (1#8).getLsbD 0 = true ∧ s.live = some 0 ∧ (s.desc 0).kind = some .sendThenRestart ∧ u.shift = none ∧
      (0xFF#8).getLsbD 0 = true ∧ (u.desc 0).kind = some .sendThenSuspend :=
  ⟨⟨⟨rfl, rfl⟩, rfl, rfl, rfl⟩, ⟨⟨rfl, rfl⟩, rfl, rfl, rfl⟩, rfl, rfl, rfl, rfl, rfl, rfl, rfl, rfl⟩

/-- The three operations that decide after an acknowledgement. -/
theorem witness_PositiveAck (x : Desc) :
    (engineAt .addrAckCheck x).PositiveAck .stepAddrAckCheck .addrAckCheck ∧
    (engineAt .dataAckCheck x).PositiveAck .stepDataAckCheck .dataAckCheck ∧
    (engineAt .rxAckSent x).PositiveAck .stepRxAckSent .rxAckSent :=
  ⟨.inl ⟨rfl, rfl, 0, rfl, rfl⟩, .inr (.inl ⟨rfl, rfl, 0, rfl, rfl⟩), .inr (.inr ⟨rfl, rfl⟩)⟩

/-- The largest `REM` and the last admitted address; the first address that is not admitted (vector E12's fault at each of
the three decisions); and each unwritten field. -/
theorem witness_AckWithBytesLeftSendsTheNext :
    let s := engineAt .dataAckCheck (descr 0xD0 .sendThenStop 0xFFFF 0x3FF)
    let o := engineAt .addrAckCheck (descr 0xD0 .sendThenStop 1 0x400)
    let k := engineAt .addrAckCheck Desc.unwritten
    let r := engineAt .dataAckCheck { Desc.unwritten with kind := some .sendThenStop }
    let c := engineAt .addrAckCheck { Desc.unwritten with kind := some .sendThenStop, rem := some 1 }
    s.EngineReady .dataAckCheck ∧ s.PositiveAck .stepDataAckCheck .dataAckCheck ∧ s.shift = none ∧ s.live = some 0 ∧
      (s.desc 0).kind = some .sendThenStop ∧ dirOf .sendThenStop = some .w ∧ s.ghostDir = some .w ∧
      (s.desc 0).rem = some 0xFFFF ∧ (s.desc 0).cur = some 0x3FF ∧ admits s.cfg 0x3FF = true ∧
      o.EngineReady .addrAckCheck ∧ (o.desc 0).cur = some 0x400 ∧ admits o.cfg 0x400 = false ∧
      k.EngineReady .addrAckCheck ∧ (k.desc 0).kind = none ∧ r.EngineReady .dataAckCheck ∧ (r.desc 0).rem = none ∧
      c.EngineReady .addrAckCheck ∧ (c.desc 0).rem = some 1 ∧ (c.desc 0).cur = none :=
  ⟨ready_engineAt _ _, (witness_PositiveAck _).2.1, rfl, rfl, rfl, rfl, rfl, rfl, rfl, by decide, ready_engineAt _ _, rfl,
    by decide, ready_engineAt _ _, rfl, ready_engineAt _ _, rfl, ready_engineAt _ _, rfl, rfl⟩

theorem witness_AckWithBytesLeftReceivesTheNext :
    let s : State := { engineAt .rxAckSent (descr 0xD1 .receiveThenStop 1 0x300) with ghostDir := some .r }
    s.EngineReady .rxAckSent ∧ s.PositiveAck .stepRxAckSent .rxAckSent ∧ s.shift = none ∧ s.live = some 0 ∧
      (s.desc 0).kind = some .receiveThenStop ∧ dirOf .receiveThenStop = some .r ∧ s.ghostDir = some .r ∧
      (s.desc 0).rem = some 1 :=
  ⟨⟨⟨rfl, rfl⟩, rfl, rfl, rfl⟩, .inr (.inr ⟨rfl, rfl⟩), rfl, rfl, rfl, rfl, rfl, rfl⟩

/-- For the three ends of a transfer: a kind that suspends, one that restarts, one that stops, and a restart kind after a
NACK. -/
theorem witness_AckAtTheEndRestartsOrStops :
    let a := engineAt .dataAckCheck (descr 0xD0 .sendThenSuspend 0 0x200)
    let b := engineAt .dataAckCheck (descr 0xD0 .sendThenRestart 0 0x200)
    let c := engineAt .dataAckCheck (descr 0xD0 .sendThenStop 0 0x200)
    let e : State := { b with nackf := true }
    a.EngineReady .dataAckCheck ∧ a.PositiveAck .stepDataAckCheck .dataAckCheck ∧ (a.desc 0).rem = some 0 ∧
      (a.desc 0).kind = some .sendThenSuspend ∧ a.ghostDir = some .w ∧
      b.EngineReady .dataAckCheck ∧ (b.desc 0).kind = some .sendThenRestart ∧ b.nackf = false ∧ b.shift = none ∧
      c.EngineReady .dataAckCheck ∧ (c.desc 0).kind = some .sendThenStop ∧ c.live = some 0 ∧ c.shift = none ∧
      e.EngineReady .dataAckCheck ∧ e.nackf = true ∧ (e.desc 0).rem = some 0 :=
  ⟨ready_engineAt _ _, (witness_PositiveAck _).2.1, rfl, rfl, rfl, ready_engineAt _ _, rfl, rfl, rfl, ready_engineAt _ _,
    rfl, rfl, rfl, ⟨⟨rfl, rfl⟩, rfl, rfl, rfl⟩, rfl, rfl⟩

theorem witness_ChangedDirectionFaults :
    let s := engineAt .dataAckCheck (descr 0xD1 .receiveThenStop 1 0x200)
    let u := engineAt .receiveStore (descr 0xD0 .idle 1 0x200)
    s.EngineReady .dataAckCheck ∧ s.PositiveAck .stepDataAckCheck .dataAckCheck ∧ s.live = some 0 ∧
      (s.desc 0).kind = some .receiveThenStop ∧ dirOf .receiveThenStop = some .r ∧ s.ghostDir = some .w ∧
      u.EngineReady .receiveStore ∧ (u.desc 0).rem = some 1 ∧ (u.desc 0).kind = some .idle :=
  ⟨ready_engineAt _ _, (witness_PositiveAck _).2.1, rfl, rfl, rfl, rfl, ready_engineAt _ _, rfl, rfl⟩

/-- `CUR` at the top of the address space, an address outside the admitted range, and `REM = 0`. -/
theorem witness_SendByteActSendsTheCursorsByte :
    let s : State := { engineAt .sendByte (descr 0xD0 .sendThenStop 1 0xFFFF) with cfg := Config.default }
    let u := engineAt .sendByte (descr 0xD0 .sendThenStop 1 0x400)
    let v := engineAt .sendByte (descr 0xD0 .sendThenStop 0 0x200)
    s.EngineReady .sendByte ∧ s.shift = none ∧ s.live = some 0 ∧ (s.desc 0).rem = some 1 ∧ (s.desc 0).cur = some 0xFFFF ∧
      admits s.cfg 0xFFFF = true ∧ u.EngineReady .sendByte ∧ admits u.cfg 0x400 = false ∧ v.EngineReady .sendByte ∧
      (v.desc 0).rem = some 0 :=
  ⟨⟨⟨rfl, rfl⟩, rfl, rfl, rfl⟩, rfl, rfl, rfl, rfl, by decide, ready_engineAt _ _, by decide, ready_engineAt _ _, rfl⟩

theorem witness_ReceiveByteAndPrepareStopActs :
    let b := engineAt .prepareStop (descr 0xD0 .sendThenRestart 0 0x200)
    let e : State := { b with nackf := true }
    (engineAt .receiveByte Desc.unwritten).EngineReady .receiveByte ∧ b.EngineReady .prepareStop ∧ b.shift = none ∧
      b.live = some 0 ∧ (b.desc 0).kind = some .sendThenRestart ∧ b.nackf = false ∧ e.EngineReady .prepareStop ∧
      ((engineAt .prepareStop (descr 0xD0 .sendThenStop 0 0)).desc 0).kind = some .sendThenStop ∧
      ((engineAt .prepareStop (descr 0xD0 .idle 0 0)).desc 0).kind = some .idle ∧
      ((engineAt .prepareStop (descr 0xD0 .reserved 0 0)).desc 0).kind = some .reserved :=
  ⟨ready_engineAt _ _, ready_engineAt _ _, rfl, rfl, rfl, rfl, ⟨⟨rfl, rfl⟩, rfl, rfl, rfl⟩, rfl, rfl, rfl⟩

/-- For a stored byte, for an underflow and an address just below the admitted range, and for each unwritten register. -/
theorem witness_ReceiveStore :
    let s : State := { engineAt .receiveStore (descr 0xD1 .receiveThenStop 1 0x3FF) with ghostDir := some .r }
    let u : State := { engineAt .receiveStore (descr 0xD1 .receiveThenStop 1 0x1FF) with ghostDir := some .r }
    let v := engineAt .receiveStore (descr 0xD1 .receiveThenStop 0 0x300)
    let w : State := { s with sr := none }
    let x : State :=
      { engineAt .receiveStore { Desc.unwritten with rem := some 1, kind := some .receiveThenStop } with ghostDir := some .r }
    let y := engineAt .receiveStore { Desc.unwritten with rem := some 1 }
    s.EngineReady .receiveStore ∧ Memory.wf s.hmem = true ∧ s.shift = none ∧ s.live = some 0 ∧ (s.desc 0).rem = some 1 ∧
      (s.desc 0).kind = some .receiveThenStop ∧ dirOf .receiveThenStop = some .r ∧ s.ghostDir = some .r ∧
      s.sr = some 0 ∧ (s.desc 0).cur = some 0x3FF ∧ admits s.cfg 0x3FF = true ∧
      u.EngineReady .receiveStore ∧ (u.desc 0).cur = some 0x1FF ∧ admits u.cfg 0x1FF = false ∧
      v.EngineReady .receiveStore ∧ (v.desc 0).rem = some 0 ∧ w.EngineReady .receiveStore ∧ w.sr = none ∧
      x.EngineReady .receiveStore ∧ x.sr = some 0 ∧ (x.desc 0).cur = none ∧ y.EngineReady .receiveStore ∧
      (y.desc 0).kind = none ∧ ((engineAt .receiveStore Desc.unwritten).desc 0).rem = none :=
  ⟨⟨⟨rfl, rfl⟩, rfl, rfl, rfl⟩, rfl, rfl, rfl, rfl, rfl, rfl, rfl, rfl, rfl, by decide, ⟨⟨rfl, rfl⟩, rfl, rfl, rfl⟩, rfl,
    by decide, ready_engineAt _ _, rfl, ⟨⟨rfl, rfl⟩, rfl, rfl, rfl⟩, rfl, ⟨⟨rfl, rfl⟩, rfl, rfl, rfl⟩, rfl, rfl,
    ready_engineAt _ _, rfl, rfl⟩

/-- For STOP's act and for the lost wake-up, with no stimulus to come. -/
theorem witness_StopActYields :
    let s : State := { engineAt .stop Desc.unwritten with buscond := .stopReady }
    s.EngineReady .stop ∧ s.shift = none ∧ s.buscond = .stopReady ∧ (engineAt .stop Desc.unwritten).EngineReady .stop ∧
      (engineAt .stop Desc.unwritten).buscond ≠ .stopReady ∧ s.cfg.idleCheckAtomic = false ∧ .environment ∉ s.agenda :=
  ⟨⟨⟨rfl, rfl⟩, rfl, rfl, rfl⟩, rfl, rfl, ready_engineAt _ _, nofun, rfl, List.not_mem_nil⟩

/-- For the statements about every normal engine step. -/
theorem witness_EngineStepEndsArmedOrYielded :
    Instr.stepState .stepAddrAckPrep ≠ none ∧
    ∃ t, exec .stepAddrAckPrep (engineAt .addrAckPrep Desc.unwritten) = .next t ∧ t.faults = [] :=
  ⟨nofun, _, rfl, rfl⟩

/-- For the foreground operations: a foreground that may step, with the engine as owner and without, with a live
descriptor and without. -/
theorem witness_ForegroundOperations :
    base.ForegroundReady ∧ base.live = none ∧ base.sigEn = false ∧ (live (descr 0xFF .reserved 0xFFFF 0xFFFF)).ForegroundReady ∧
    (live Desc.unwritten).live = some 0 ∧ ({ live Desc.unwritten with sigEn := true } : State).ForegroundReady ∧
    base.desc 14 = { addr := none, rem := none, kind := none, cur := none, cont := none } ∧ Memory.wf base.hmem = true ∧
    admits base.cfg 0x200 = true ∧ admits base.cfg 0x1FF = false ∧ admits base.cfg 0x3FF = true ∧
    admits base.cfg 0x400 = false ∧ base.busy = false ∧ ({ base with busy := true } : State).ForegroundReady :=
  ⟨⟨⟨rfl, rfl⟩, rfl⟩, rfl, rfl, ready_live _, rfl, ⟨⟨rfl, rfl⟩, rfl⟩, rfl, rfl, by decide, by decide, by decide, by decide,
    rfl, ⟨⟨rfl, rfl⟩, rfl⟩⟩

/-- Each field of a written descriptor reads as a value (R157). -/
theorem witness_DescReadReturnsTheField :
    let s := live { descr 0xFF .reserved 0xFFFF 0xFFFF with cont := some (.ref 0xFFFF) }
    s.ForegroundReady ∧ (s.desc 0).addr = some 0xFF ∧ (s.desc 0).rem = some 0xFFFF ∧ (s.desc 0).kind = some .reserved ∧
      (s.desc 0).cur = some 0xFFFF ∧ (s.desc 0).cont = some (.ref 0xFFFF) ∧
      ((live (descr 0 .idle 0 0)).desc 0).cont = some .null :=
  ⟨ready_live _, rfl, rfl, rfl, rfl, rfl, rfl⟩

/-- R83: the numbers of the kinds at the ends of the table, read and written. -/
theorem test_R83_kind_numbers :
    (∃ t, exec (.descRead 0 .kind) (live (descr 0 .idle 0 0)) = .next t ∧ t.rv = some 0) ∧
    (∃ t, exec (.descRead 0 .kind) (live (descr 0 .receiveThenRestart 0 0)) = .next t ∧ t.rv = some 6) ∧
    (∃ t, exec (.descWrite 0 .kind 6) base = .next t ∧ (t.desc 0).kind = some .receiveThenRestart) :=
  ⟨⟨_, rfl, rfl⟩, ⟨_, rfl, rfl⟩, ⟨_, rfl, rfl⟩⟩

/-- A state for each branch of a scheduler iteration. -/
theorem witness_SchedulerIterationDispatches :
    let n : State := { live (descr 0 .sendThenStop 0 0) with event := true }
    base.event = false ∧ ({ base with event := true } : State).ForegroundReady ∧ n.ForegroundReady ∧ n.live = some 0 ∧
      (n.desc 0).cont = some .null ∧ n.sigEn = false ∧ ({ n with sigEn := true } : State).ForegroundReady ∧
      ((live Desc.unwritten).desc 0).cont = none ∧
      ((live { descr 0 .idle 0 0 with cont := some (.ref 1) }).desc 0).cont = some (.ref 1) :=
  ⟨rfl, ⟨⟨rfl, rfl⟩, rfl⟩, ⟨⟨rfl, rfl⟩, rfl⟩, rfl, rfl, rfl, ⟨⟨rfl, rfl⟩, rfl⟩, rfl, rfl⟩

theorem witness_LowPowerWaitSleepsAndWakes :
    base.ForegroundReady ∧ base.cfg.idleCheckAtomic = false ∧ base.event = false ∧
    ({ base with event := true, cfg := { cfg with idleCheckAtomic := true } } : State).ForegroundReady ∧
    ({ base with asleep := true } : State).Running ∧ base.asleep = false :=
  ⟨⟨⟨rfl, rfl⟩, rfl⟩, rfl, rfl, ⟨⟨rfl, rfl⟩, rfl⟩, ⟨rfl, rfl⟩, rfl⟩

theorem witness_SleepingForegroundIsWokenByTheEngineOrAStimulus :
    let s : State := { engineAt .addrAckPrep Desc.unwritten with asleep := true }
    s.asleep = true ∧ s.Running ∧ Instr.issuer .lpmWait = .foreground ∧
      ∃ t, exec .stepAddrAckPrep s = .next t ∧ t.asleep = false ∧ t.faults = [] :=
  ⟨rfl, ⟨rfl, rfl⟩, rfl, _, rfl, rfl, rfl⟩

/-- For the rules of the whole machine: steps that fault, write `BUSY`, write `ERR`, raise and clear `EVENT`, arm and
complete a shift. -/
theorem witness_MachineRules :
    (∃ t, exec .resume base = .next t ∧ t.faults ≠ []) ∧
    (∃ t, exec .acquire base = .next t ∧ t.busy ≠ base.busy) ∧
    (∃ t, exec .stepAddrAckCheck { engineAt .addrAckCheck (descr 0xD0 .sendThenStop 1 0x200) with sr := some 1 } = .next t ∧
      t.err ≠ 0) ∧
    (∃ t, exec .raiseEvent base = .next t ∧ base.event = false ∧ t.event = true) ∧
    (∃ t, exec .clearEvent { base with event := true } = .next t ∧ t.event = false) ∧
    (∃ t, exec .receiveByte base = .next t ∧ base.sigPend = true ∧ t.sigPend = false) ∧
    (∃ t, exec .shiftComplete { base with shift := some .rx8, sigPend := false } = .next t ∧ t.sigPend = true) ∧
    (∃ t, exec (.memWrite 0x3FF 1) base = .next t ∧ Memory.read t.hmem 0x3FF ≠ Memory.read base.hmem 0x3FF) ∧
    (∃ t, exec (.start (some 0)) base = .next t ∧ t.live ≠ base.live ∧ t.sigEn ≠ base.sigEn) ∧
    (∃ t, exec .resume (live Desc.unwritten) = .next t ∧ t.sigEn ≠ (live Desc.unwritten).sigEn) ∧
    (∃ t, exec .forceStop (live Desc.unwritten) = .next t ∧ t.sigEn ≠ (live Desc.unwritten).sigEn) :=
  ⟨⟨_, rfl, List.cons_ne_nil _ _⟩, ⟨_, rfl, by decide⟩, ⟨_, rfl, by decide⟩, ⟨_, rfl, rfl, rfl⟩, ⟨_, rfl, rfl⟩, ⟨_, rfl, rfl, rfl⟩,
    ⟨_, rfl, rfl⟩, ⟨_, rfl, by decide⟩, ⟨_, rfl, nofun, nofun⟩, ⟨_, rfl, nofun⟩, ⟨_, rfl, nofun⟩⟩

/-- The handoff: a shift completes while the foreground owns the descriptor, and a program writes another register while the
engine owns it. -/
theorem witness_DescriptorsChangeOnlyByTheirOwner :
    let s : State := { base with shift := some (.prep false), sigPend := false, agenda := [.shifter] }
    (∃ t, step s = .next t) ∧ s.sigEn = false ∧ (∀ w, s.agenda.head? ≠ some (.foreground w)) ∧
    (∃ t, exec .release { live Desc.unwritten with sigEn := true } = .next t) ∧ Instr.issuer .release = .foreground ∧
      Instr.release ≠ .forceStop :=
  ⟨⟨_, rfl⟩, rfl, nofun, ⟨_, rfl⟩, rfl, by decide⟩

theorem witness_ResetMeetsTheInvariants : cfg.wf = true ∧ Memory.wf [(0x201, 0x12)] = true := by decide

/-- The invariants hold of the start state, from which the scheduled turn takes a next state. -/
theorem witness_Invariants :
    ({ base with agenda := [.foreground 0x21000000] } : State).Inv ∧
    ({ base with agenda := [.foreground 0x21000000] } : State).BusInv ∧
    ({ base with agenda := [.foreground 0x21000000] } : State).AgentTurn ∧
    (∃ t, step { base with agenda := [.foreground 0x21000000] } = .next t) ∧
    ∃ t, step { base with agenda := [.foreground 0x11000000] } = .next t ∧ t.faults ≠ [] := by
  refine ⟨⟨by decide, by decide, nofun, by decide, .inl rfl, by decide, ?_, nofun, nofun, by decide⟩,
    ⟨rfl, .inl ⟨rfl, .inl rfl⟩, fun h => absurd rfl h⟩, nofun, ⟨_, rfl⟩, ⟨_, rfl, List.cons_ne_nil _ _⟩⟩
  intro d c h
  have hd : ∀ d, (({ base with agenda := [.foreground 0x21000000] } : State).desc d).cont = none := by decide
  rw [hd d] at h
  cases h

/-- A record of RECEIVE_STORE's underflow, the one the invariants allow (R203): the descriptor ran out between two
of the engine's steps. -/
theorem witness_UnreachableFaultsAreNeverRaised :
    let s : State := { engineAt .receiveStore (descr 0xD1 .receiveThenStop 0 0x300) with agenda := [.engine] }
    s.BusInv ∧ s.Inv ∧ s.AgentTurn ∧ ∃ t, step s = .next t ∧
      t.faults = [{ fault := .remainingUnderflow, agent := .engine, op := 0x47000000 }] := by
  refine ⟨⟨rfl, ⟨rfl, .inl ⟨rfl, nofun⟩⟩, nofun⟩,
    ⟨by decide, by decide, by decide, fun h => absurd rfl h, .inl rfl, by decide, ?_, nofun, fun _ => nofun, by decide⟩, nofun, _,
    rfl, rfl⟩
  intro d c h
  have hd : ∀ d, ((engineAt .receiveStore (descr 0xD1 .receiveThenStop 0 0x300)).desc d).cont = none ∨
      ((engineAt .receiveStore (descr 0xD1 .receiveThenStop 0 0x300)).desc d).cont = some .null := by decide
  rcases hd d with h' | h' <;> exact nomatch h'.symm.trans h

/-- Whether the run stops within `n` steps, with no shift in flight and no signal waiting. -/
def served (n : Nat) (s : State) : Bool :=
  match n with
  | 0 => false
  | n + 1 =>
    match step s with
    | .next u => served n u
    | .fault _ | .refused _ => s.shift.isNone && !s.signalled

theorem premises_of_served {s : State} {n : Nat} (h : served n s = true) : s.BusCompletes ∧ s.EngineServed := by
  induction n generalizing s with
  | zero => cases h
  | succ n ih =>
    unfold served at h
    split at h
    case h_1 u hs => exact ⟨.of_next hs (ih h).1, .of_next hs (ih h).2⟩
    all_goals
      rename_i hs
      simp only [Bool.and_eq_true, Option.isNone_iff_eq_none, Bool.not_eq_true'] at h
      exact ⟨.of_stopped h.1 (by simp [hs]), .of_stopped h.2 (by simp [hs])⟩

/-- No byte with no foreground turn, on an idle bus; and after a restart-yield whose marker is still in flight, the largest
`REM` cut short by a `force_stop` of the foreground. -/
theorem witness_ThenStopTransactionEndsWhenTheBusCompletes :
    let s : State := { startAt (descr 0xD0 .sendThenStop 0 0x400) with agenda := busTurns 3, draws := [0, 0, 0] }
    let u : State :=
      { startAt (descr 0xD1 .receiveThenStop 0xFFFF 0x3FF) with
        buscond := .active, shift := some (.prep false), sigPend := false, draws := [0, 0, 0, 0]
        agenda := .shifter :: .foreground 0x12000000 :: busTurns 3 }
    s.Running ∧ s.BusInv ∧ s.pstate = .start ∧ s.sigEn = true ∧ s.live = some 0 ∧
      (s.desc 0).kind = some .sendThenStop ∧ (s.desc 0).rem = some 0 ∧ (∀ w, .primitive w ∉ s.agenda) ∧
      (s.BusCompletes ∧ s.EngineServed) ∧ (s.desc 0).wellFormed = true ∧ s.noHostTurn = true ∧
      (s.desc 0).cur = some 0x400 ∧
      u.Running ∧ u.BusInv ∧ u.pstate = .start ∧ u.sigEn = true ∧ u.live = some 0 ∧
      (u.desc 0).kind = some .receiveThenStop ∧ (u.desc 0).rem = some 0xFFFF ∧ (∀ w, .primitive w ∉ u.agenda) ∧
      (u.BusCompletes ∧ u.EngineServed) :=
  ⟨⟨rfl, rfl⟩, ⟨rfl, .inl ⟨rfl, .inl rfl⟩, fun h => absurd rfl h⟩, rfl, rfl, rfl, rfl, rfl, by simp [busTurns],
    premises_of_served (n := 8) (by decide), by decide, by decide, rfl,
    ⟨rfl, rfl⟩, ⟨rfl, .inr ⟨rfl, rfl⟩, fun h => absurd rfl h⟩, rfl, rfl, rfl, rfl, rfl, by simp [busTurns],
    premises_of_served (n := 10) (by decide)⟩

/-- A restart kind whose address the slave does not acknowledge, the transaction starting with a repeated start. -/
theorem witness_AddressNackTransaction :
    let s : State :=
      { engineAt .start (descr 0xD0 .sendThenRestart 1 0x200) with
        buscond := .restartReady, draws := [0xFF, 1], agenda := busTurns 3 }
    s.EngineReady .start ∧ s.shift = none ∧ s.buscond = .restartReady ∧ s.live = some 0 ∧
      (s.desc 0).kind = some .sendThenRestart ∧ dirOf .sendThenRestart = some .w ∧ (s.desc 0).addr = some 0xD0 ∧
      (0xD0#8).getLsbD 0 = decide (Dir.w = .r) ∧ s.draws = 0xFF :: 1 :: [] ∧ (1#8).getLsbD 0 = true ∧
      s.agenda = busTurns 3 ++ [] :=
  ⟨⟨⟨rfl, rfl⟩, rfl, rfl, rfl⟩, rfl, rfl, rfl, rfl, rfl, rfl, by decide, rfl, by decide, (List.append_nil _).symm⟩

/-- One byte at the last admitted address, the answers after a sent byte all ones; and no byte, after a repeated start. -/
theorem witness_SendThenStopTransaction :
    let s : State :=
      { startAt (descr 0xD0 .sendThenStop 1 0x3FF) with draws := [0xFF, 0, 0xFF, 0], agenda := busTurns 5 }
    let z : State :=
      { engineAt .start (descr 0xD0 .sendThenStop 0 0x400) with
        buscond := .restartReady, draws := [0xFF, 0xFE], agenda := busTurns 3 }
    s.EngineReady .start ∧ s.shift = none ∧ s.buscond = .idle ∧ s.live = some 0 ∧
      s.desc 0 = { addr := some 0xD0, rem := some (BitVec.ofNat 16 1), kind := some .sendThenStop, cur := some 0x3FF,
                   cont := some .null } ∧
      (0xD0#8).getLsbD 0 = false ∧ (∀ k, k < 1 → admits s.cfg (0x3FF + BitVec.ofNat 16 k) = true) ∧
      (s.draws[1]? = some 0 ∧ s.draws[3]? = some 0 ∧ (0#8).getLsbD 0 = false) ∧
      s.agenda = busTurns (2 * 1 + 3) ++ [] ∧ z.EngineReady .start ∧ z.buscond = .restartReady ∧
      z.desc 0 = { addr := some 0xD0, rem := some (BitVec.ofNat 16 0), kind := some .sendThenStop, cur := some 0x400,
                   cont := some .null } ∧
      (z.draws[1]? = some 0xFE ∧ (0xFE#8).getLsbD 0 = false) ∧ z.agenda = busTurns (2 * 0 + 3) ++ [] :=
  ⟨⟨⟨rfl, rfl⟩, rfl, rfl, rfl⟩, rfl, rfl, rfl, rfl, by decide, by decide, by decide,
    (List.append_nil _).symm, ⟨⟨rfl, rfl⟩, rfl, rfl, rfl⟩, rfl, rfl, by decide, (List.append_nil _).symm⟩

/-- One byte at the last admitted address; and no byte, after a repeated start. -/
theorem witness_ReceiveThenStopTransaction :
    let s : State :=
      { startAt (descr 0xD1 .receiveThenStop 1 0x3FF) with draws := [0, 0, 0x42, 0], agenda := busTurns 5 }
    let z : State :=
      { engineAt .start (descr 0xD1 .receiveThenStop 0 0x400) with
        buscond := .restartReady, draws := [0xFF, 0xFE], agenda := busTurns 3 }
    s.EngineReady .start ∧ Memory.wf s.hmem = true ∧ s.shift = none ∧ s.buscond = .idle ∧ s.live = some 0 ∧
      s.desc 0 = { addr := some 0xD1, rem := some (BitVec.ofNat 16 1), kind := some .receiveThenStop, cur := some 0x3FF,
                   cont := some .null } ∧
      (0xD1#8).getLsbD 0 = true ∧ (∀ k, k < 1 → admits s.cfg (0x3FF + BitVec.ofNat 16 k) = true) ∧
      (0#8).getLsbD 0 = false ∧ s.draws = 0 :: 0 :: receiveDraws [(0x42, 0)] ++ [] ∧
      s.agenda = busTurns (2 * 1 + 3) ++ [] ∧ z.EngineReady .start ∧ z.buscond = .restartReady ∧
      z.desc 0 = { addr := some 0xD1, rem := some (BitVec.ofNat 16 0), kind := some .receiveThenStop, cur := some 0x400,
                   cont := some .null } ∧
      (0xFE#8).getLsbD 0 = false ∧ z.draws = 0xFF :: 0xFE :: receiveDraws [] ++ [] ∧
      z.agenda = busTurns (2 * 0 + 3) ++ [] :=
  ⟨⟨⟨rfl, rfl⟩, rfl, rfl, rfl⟩, rfl, rfl, rfl, rfl, rfl, by decide, by decide, by decide, rfl, (List.append_nil _).symm,
    ⟨⟨rfl, rfl⟩, rfl, rfl, rfl⟩, rfl, rfl, by decide, rfl, (List.append_nil _).symm⟩

end Sys2Proof.Tests
end

section
/-! PROOF. Settles O5, O6 and O53: the operation a turn runs, and the state after reset. -/

namespace Sys2Proof.Machine

/-! ### The operation a turn runs -/

/-- A turn that comes to an operation runs it at the state with the turn taken off the schedule. -/
theorem step_of_runs {s : State} {x : Turn} {i : Instr} {rest : List Turn} (hr : s.Running)
    (ha : s.agenda = x :: rest) (h : Runs s x i) : step s = exec i { s with agenda := rest } := by
  have hf : fetchTurn x (s.setAgenda rest) = .run i (s.setAgenda rest) := by
    cases h with
    | foreground w i has hd hi => simp [fetchTurn, fetchForeground, has, hd, hi]
    | engine i hs hi =>
      have hs' : (s.setAgenda rest).signalled = true := hs
      simp [fetchTurn, fetchEngine, hs', hi]
    | primitive w i hd hi => simp [fetchTurn, fetchPrimitive, hd, hi]
    | shifter => rfl
    | environment => rfl
  simp only [step, fetch_running hr ha, hf]
  rfl

/-- R177: where an awake foreground runs a continuation's program, the end of that program returns it to its loop. -/
theorem step_contReturn {s : State} {rest : List Turn} {c : Half} {d : DescRef} (hr : s.ForegroundReady)
    (ha : s.agenda = .contReturn :: rest) (hp : s.fgPos = .continuation c d) :
    step s = .next { s with agenda := rest, fgPos := .loop } := by
  have hf : fetchTurn .contReturn (s.setAgenda rest) = .done (.next ((s.setAgenda rest).setFgPos .loop)) := by
    simp [fetchTurn, fetchContReturn, hr.2, hp]
  simp only [step, fetch_running hr.1 ha, hf]
  rfl

/-- Settles O5: the decoded word is what the foreground's turn runs. -/
theorem stepRunsTheForegroundWord : Obligations.StepRunsTheForegroundWord := by
  intro s w rest i hr ha hd hi
  exact step_of_runs hr.1 ha (.foreground w i hr.2 hd hi)

/-- Settles O6, one agent at a time. -/
theorem stepRunsTheAgentsOperation : Obligations.StepRunsTheAgentsOperation := by
  intro s rest hr
  refine ⟨fun ha hen hpend i hi => ⟨?_, decode_stepWord s.cfg hi⟩, fun ha => step_of_runs hr ha .shifter,
    fun ha => step_of_runs hr ha .environment, fun w i ha hd hi => step_of_runs hr ha (.primitive w i hd hi),
    fun ha has c d hp => step_contReturn ⟨hr, has⟩ ha hp⟩
  exact step_of_runs hr ha (.engine i (by simp [State.signalled, hen, hpend]) hi)

/-! ### Reset -/

/-- Settles O53: after reset nothing is written, armed, live or recorded. -/
theorem resetMeetsTheInvariants : Obligations.ResetMeetsTheInvariants := by
  intro cfg m hcfg hm
  constructor
  · exact
      { config := hcfg
        memory := hm
        live := nofun
        shift := fun h => absurd rfl h
        err := .inl rfl
        kind := by simp [Desc.unwritten]
        cont := by simp [Desc.unwritten]
        pstate := nofun
        signalling := nofun
        oneEnd := ⟨Nat.zero_le 1, .inl rfl⟩ }
  · exact
      { pending := rfl
        phase := .inl ⟨rfl, .inl rfl⟩
        ghost := fun h => absurd rfl h }

end Sys2Proof.Machine
end

section
/-! PROOF. Settles O52: what every step carries over from the state before it. -/

namespace Sys2Proof.Machine

/-- What every operation carries over: the parameters, the schedule, the records that end a run, and the events on
`TRACE`. -/
structure Carries (s t : State) : Prop where
  cfg : t.cfg = s.cfg
  agenda : t.agenda = s.agenda
  faults : t.faults = s.faults
  refused : t.refused = s.refused
  trace : ∃ es, t.trace = s.trace ++ es

theorem Carries.running {s t : State} (h : Carries s t) (hr : s.Running) : t.Running :=
  ⟨h.faults.trans hr.1, h.refused.trans hr.2⟩

theorem ActEnd.carries {i : Instr} {s t : State} (h : ActEnd i s t) : Carries s t := by
  have same : s.trace = s.trace ++ [] := (List.append_nil _).symm
  cases h with
  | started d k dir a hi hl hk hdir ha hbus hs ht => subst ht; exact ⟨rfl, rfl, rfl, rfl, _, rfl⟩
  | ackPrep p hi hs ht => subst ht; exact ⟨rfl, rfl, rfl, rfl, _, same⟩
  | nacked code hi hs ht => subst ht; exact ⟨rfl, rfl, rfl, rfl, _, same⟩
  | suspended d k hi hl hk hsus hr ht => subst ht; exact ⟨rfl, rfl, rfl, rfl, _, same⟩
  | restarted d k hi hl hk hres hn hs ht => subst ht; exact ⟨rfl, rfl, rfl, rfl, _, same⟩
  | stopping d k hi hl hk hstop hs ht => subst ht; exact ⟨rfl, rfl, rfl, rfl, _, same⟩
  | sent d r c hi hl hr h0 hc hadm hs ht => subst ht; exact ⟨rfl, rfl, rfl, rfl, _, same⟩
  | receiving hi hs ht => subst ht; exact ⟨rfl, rfl, rfl, rfl, _, same⟩
  | stored d r c b n hi hl hr h0 hsr hc hadm hs ht => subst ht; exact ⟨rfl, rfl, rfl, rfl, _, same⟩
  | stopped hi hb ht => subst ht; exact ⟨rfl, rfl, rfl, rfl, _, rfl⟩

theorem StepEnd.carries {i : Instr} {s t : State} (h : StepEnd i s t) : Carries s t := by
  have same : s.trace = s.trace ++ [] := (List.append_nil _).symm
  cases h with
  | engine p hi hr h =>
    obtain ⟨hcfg, hag, hf, hrf, htr⟩ := h.carries
    exact ⟨hcfg, hag, hf, hrf, htr⟩
  | startIssued hi hb ht => subst ht; exact ⟨rfl, rfl, rfl, rfl, _, rfl⟩
  | stopIssued hi hb ht => subst ht; exact ⟨rfl, rfl, rfl, rfl, _, rfl⟩
  | completed op hi hs ht =>
    subst ht
    exact ⟨completeShift_cfg s op, completeShift_agenda s op, completeShift_faults s op, completeShift_refused s op,
      _, completeShift_trace s op⟩
  | armed | same | value | startedLive | resumed | forced | descWritten | memWritten | busyWritten | eventWritten
  | released | invoked | slept | woken =>
    rename_i ht
    subst ht
    exact ⟨rfl, rfl, rfl, rfl, _, same⟩

/-- R45, R48: only the engine, the shifter and a primitive put events on `TRACE`. -/
theorem StepEnd.trace_of_not_bus {i : Instr} {s t : State} (h : StepEnd i s t) (hp : i.isPrimitive = false)
    (he : i.stepState = none) (hs : i ≠ .shiftComplete) : t.trace = s.trace := by
  cases h with
  | engine p hi => cases he.symm.trans hi
  | armed op hi => cases hp.symm.trans hi
  | startIssued hi => subst hi; cases hp
  | stopIssued hi => subst hi; cases hp
  | completed op hi => exact absurd hi hs
  | same | value | startedLive | resumed | forced | descWritten | memWritten | busyWritten | eventWritten
  | released | invoked | slept | woken =>
    rename_i ht
    subst ht
    rfl

/-- Only the engine issues primitives and protocol steps (R91, R93). -/
theorem not_engine_of_issuer {i : Instr} (h : i.issuer ≠ .engine) : i.isPrimitive = false ∧ i.stepState = none := by
  cases i <;> simp only [Instr.issuer, ne_eq, not_true_eq_false] at h <;> exact ⟨rfl, rfl⟩

/-- Every turn keeps the parameters, leaves the rest of the schedule alone and only appends to `TRACE`. -/
theorem TurnEnd.keeps {s t : State} {x : Turn} (h : TurnEnd s t x) :
    t.cfg = s.cfg ∧ t.agenda = s.agenda ∧ ∃ es, t.trace = s.trace ++ es := by
  have same : s.trace = s.trace ++ [] := (List.append_nil _).symm
  cases h with
  | ran i hr h =>
    obtain ⟨-, ⟨f, rfl⟩ | he⟩ := exec_next h
    · exact ⟨rfl, rfl, _, same⟩
    · exact ⟨he.carries.cfg, he.carries.agenda, he.carries.trace⟩
  | refused w hx ht => subst ht; exact ⟨rfl, rfl, _, same⟩
  | reservedState k hx hp ht => subst ht; exact ⟨rfl, rfl, _, same⟩
  | returned hx ht => subst ht; exact ⟨rfl, rfl, _, same⟩

/-- The operation of a foreground or environment turn puts nothing on `TRACE`. -/
theorem Runs.trace_of_quiet {s t : State} {x : Turn} {i : Instr} (hr : Runs s x i) (h : StepEnd i s t)
    (he : x ≠ .engine) (hs : x ≠ .shifter) (hp : ∀ w, x ≠ .primitive w) : t.trace = s.trace := by
  cases hr with
  | foreground w i ha hd hi =>
    have hfg : i.issuer = .foreground := of_decide_eq_true hi
    obtain ⟨hprim, hstep⟩ := not_engine_of_issuer (i := i) (by simp [hfg])
    exact h.trace_of_not_bus hprim hstep (by rintro rfl; cases hfg)
  | environment => exact h.trace_of_not_bus rfl rfl nofun
  | engine => exact absurd rfl he
  | shifter => exact absurd rfl hs
  | primitive w => exact absurd rfl (hp w)

theorem TurnEnd.trace_of_quiet {s t : State} {x : Turn} (h : TurnEnd s t x) (he : x ≠ .engine) (hs : x ≠ .shifter)
    (hp : ∀ w, x ≠ .primitive w) : t.trace = s.trace := by
  cases h with
  | ran i hr h =>
    obtain ⟨-, ⟨f, rfl⟩ | hend⟩ := exec_next h
    · rfl
    · exact hr.trace_of_quiet hend he hs hp
  | refused w hx ht => rw [ht]
  | reservedState k hx hp ht => rw [ht]
  | returned hx ht => rw [ht]

/-- Settles O52: what a turn keeps, and that a quiet turn leaves `TRACE` as it is. -/
theorem traceOnlyGrowsAndParametersStay : Obligations.TraceOnlyGrowsAndParametersStay := by
  intro s t h
  obtain ⟨-, x, rest, ha, hend⟩ := step_next h
  obtain ⟨hcfg, hag, htr⟩ := hend.keeps
  have hag : t.agenda = rest := hag
  refine ⟨hcfg, htr, ⟨x, by rw [ha, hag]⟩, fun hne => ?_⟩
  rw [ha, List.head?_cons]
  apply Classical.byContradiction
  intro hq
  simp only [not_or, not_exists, Option.some.injEq] at hq
  obtain ⟨he, hs, hp⟩ := hq
  exact hne (hend.trace_of_quiet he hs hp)

end Sys2Proof.Machine
end

section
/-! PROOF. Settles O54: the decoder accepts well-formed operations only, and every step keeps `State.Inv`. -/

namespace Sys2Proof.Machine

/-! ### A decoded operation is well formed (R90, R92) -/

theorem formatB_ok {w : Word} {mk : Byte → Instr} {j : Instr} (h : formatB w mk = .ok j) : j = mk (bField w) := by
  unfold formatB at h
  split at h <;> cases h
  rfl

theorem formatD_ok {cfg : Config} {w : Word} {mk : Option DescRef → Instr} {j : Instr} (h : formatD cfg w mk = .ok j) :
    j = mk none ∨ ∃ d, descExists cfg d = true ∧ j = mk (some d) := by
  unfold formatD at h
  split at h
  case isFalse => cases h
  case isTrue =>
    split at h
    case isTrue => cases h; exact .inl rfl
    case isFalse =>
      cases hd : descOf cfg (dField w) <;> rw [hd] at h <;> cases h
      exact .inr ⟨_, (descOf_ok hd).2, rfl⟩

theorem formatDF_ok {cfg : Config} {w : Word} {mk : DescRef → Field → Instr} {j : Instr}
    (h : formatDF cfg w mk = .ok j) : ∃ d f, descExists cfg d = true ∧ j = mk d f := by
  unfold formatDF at h
  split at h
  case isFalse => cases h
  case isTrue =>
    cases hd : descOf cfg (dField w) <;> rw [hd] at h <;> cases hf : fieldOf (fField w) <;> rw [hf] at h <;> cases h
    exact ⟨_, _, (descOf_ok hd).2, rfl⟩

theorem formatDFV_ok {cfg : Config} {w : Word} {mk : DescRef → Field → Half → Instr} {j : Instr}
    (h : formatDFV cfg w mk = .ok j) :
    ∃ d f v, descExists cfg d = true ∧ Field.admitsValue cfg f v = true ∧ j = mk d f v := by
  unfold formatDFV at h
  cases hd : descOf cfg (dField w) <;> rw [hd] at h
  case error => cases h
  case ok d =>
    cases hf : fieldOf (fField w) <;> rw [hf] at h
    case error => cases h
    case ok f =>
      dsimp only [bind, Except.bind] at h
      split at h <;> cases h
      case isTrue hv => exact ⟨d, f, lowField w, (descOf_ok hd).2, by rw [← valueFits_eq_admitsValue, hv], rfl⟩

theorem formatMA_ok {w : Word} {mk : Half → Instr} {j : Instr} (h : formatMA w mk = .ok j) : j = mk (lowField w) := by
  unfold formatMA at h
  split at h <;> cases h
  rfl

theorem wf_of_formatN {cfg : Config} {w : Word} {i j : Instr} (h : formatN w i = .ok j) (hi : i.wf cfg = true) :
    j.wf cfg = true :=
  (formatN_ok h).1 ▸ hi

/-- R90, R92: the decoder accepts well-formed operations only. -/
theorem wf_of_decode {cfg : Config} {w : Word} {i : Instr} (h : decode cfg w = .ok i) : i.wf cfg = true := by
  unfold decode at h
  split at h
  case h_2 => rw [formatB_ok h]; rfl
  case h_12 =>
    obtain rfl | ⟨d, hd, rfl⟩ := formatD_ok h
    · rfl
    · exact hd
  case h_22 =>
    obtain ⟨d, f, hd, rfl⟩ := formatDF_ok h
    exact hd
  case h_23 =>
    obtain ⟨d, f, v, hd, hv, rfl⟩ := formatDFV_ok h
    simp [Instr.wf, hd, hv]
  case h_24 => rw [formatMA_ok h]; rfl
  case h_25 => cases h; rfl
  case h_41 => cases h
  all_goals exact wf_of_formatN h rfl

theorem Runs.wf {s : State} {x : Turn} {i : Instr} (h : Runs s x i) : i.wf s.cfg = true := by
  cases h with
  | foreground w i ha hd hi => exact wf_of_decode hd
  | engine i hs hi => cases hp : s.pstate <;> rw [hp] at hi <;> cases hi <;> rfl
  | primitive w i hd hi => exact wf_of_decode hd
  | shifter => rfl
  | environment => rfl

/-! ### What a descriptor may hold -/

/-- R25, R27, R83: no reserved kind, and a continuation reference that is one of the host's. -/
structure Desc.Legal (cfg : Config) (x : Desc) : Prop where
  kind : x.kind ≠ some .reserved
  cont : ∀ c, x.cont = some (.ref c) → isContId cfg c = true

theorem State.Inv.legal {s : State} (h : s.Inv) (d : DescRef) : (s.desc d).Legal s.cfg := ⟨h.kind d, h.cont d⟩

/-- A kind value that R90 admits is the code of a kind other than the reserved one. -/
theorem ofCode_ne_reserved {cfg : Config} {v : Half} (h : Field.admitsValue cfg .kind v = true) :
    Kind.ofCode (v.extractLsb' 0 3) ≠ .reserved := by
  intro hr
  rw [← valueFits_eq_admitsValue] at h
  simp only [valueFits, Bool.and_eq_true, decide_eq_true_eq] at h
  apply h.2
  rw [← Kind.code_ofCode (v.extractLsb' 0 3), hr]
  rfl

/-- A continuation value that R90 admits is NULL or one of the host's identifiers. -/
theorem isContId_of_admitsValue {cfg : Config} {v c : Half} (h : Field.admitsValue cfg .cont v = true)
    (hc : ContRef.ofHalf v = .ref c) : isContId cfg c = true := by
  unfold ContRef.ofHalf at hc
  split at hc <;> cases hc
  case isFalse h0 =>
    have hv : v = 0 ∨ isContId cfg v = true := by simpa [Field.admitsValue] using h
    exact hv.resolve_left h0

/-- R158: writing an admitted value keeps a descriptor legal. -/
theorem Desc.Legal.writeField {cfg : Config} {x : Desc} {f : Field} {v : Half} (h : x.Legal cfg)
    (hv : Field.admitsValue cfg f v = true) : (x.writeField f v).Legal cfg := by
  cases f with
  | addr => exact ⟨h.kind, h.cont⟩
  | rem => exact ⟨h.kind, h.cont⟩
  | cur => exact ⟨h.kind, h.cont⟩
  | kind => exact ⟨fun hk => ofCode_ne_reserved hv (Option.some.inj hk), h.cont⟩
  | cont => exact ⟨h.kind, fun c hc => isContId_of_admitsValue hv (Option.some.inj hc)⟩

/-! ### Every operation keeps the invariant -/

/-- R112 to R114: the registers a completed shift writes. -/
theorem completeShift_eq (s : State) (op : ShiftOp) :
    s.completeShift op = { s with
      sr := some s.nextDraw
      trace := s.trace ++ [op.event s.nextDraw]
      buscond := op.buscondAfter s.buscond
      shift := none
      sigPend := true
      draws := s.draws.tail
      drawCount := s.drawCount + 1 } := by
  simp only [State.completeShift, State.consumeDraw, State.emit, State.setDraws, State.setTrace, State.setSr,
    State.setBuscond, State.setShift, State.setSigPend]

namespace State.Inv

variable {s t : State}

/-- Replacing a descriptor by a legal one keeps the invariant. -/
theorem setDesc (h : s.Inv) (d : DescRef) {x : Desc} (hx : x.Legal s.cfg) : (s.setDesc d x).Inv :=
  { h with
    kind := fun k => by
      rw [setDesc_desc]
      split
      · exact hx.kind
      · exact h.kind k
    cont := fun k c => by
      rw [setDesc_desc]
      split
      · exact hx.cont c
      · exact h.cont k c }

/-- One data byte of the live descriptor moved (R133, R137). -/
theorem advance (h : s.Inv) (d : DescRef) (r c : Half) : (s.advance d r c).Inv :=
  h.setDesc d ⟨h.kind d, h.cont d⟩

theorem memWrite (h : s.Inv) (a : Half) (v : Byte) : (s.setHmem (Memory.write s.hmem a.toNat v)).Inv :=
  { h with memory := Memory.write_wf h.memory a.isLt }

/-- Arming a shift clears the pending flag (R51, R101). -/
theorem armed (h : s.Inv) (op : ShiftOp) : ((s.setShift (some op)).setSigPend false).Inv :=
  { h with shift := fun _ => rfl }

theorem setPstate (h : s.Inv) {p : PState} (hp : ∀ k, p ≠ .reserved k) : (s.setPstate p).Inv :=
  { h with pstate := hp }

/-- A yield takes the signal away (R132, R140, R141). -/
theorem yielded (h : s.Inv) : ((s.setEvent true).setSigEn false).Inv :=
  { h with signalling := nofun }

/-- The signal is enabled where a descriptor is live (R200). -/
theorem signalled (h : s.Inv) (hl : s.live ≠ none) : (s.setSigEn true).Inv :=
  { h with signalling := fun _ => hl }

/-- R196: a running state with one fault record. -/
theorem faulted (h : s.Inv) (hr : s.Running) (r : FaultRecord) : ({ s with faults := [r] } : State).Inv :=
  { h with oneEnd := ⟨Nat.le_refl 1, .inr hr.2⟩ }

/-- R207: a running state with a refusal mark. -/
theorem refused (h : s.Inv) (hr : s.Running) (w : Word) : ({ s with refused := some w } : State).Inv :=
  { h with oneEnd := ⟨h.oneEnd.1, .inl hr.1⟩ }

theorem completed (h : s.Inv) (op : ShiftOp) : (s.completeShift op).Inv := by
  rw [completeShift_eq]
  exact { h with shift := fun hs => absurd rfl hs }

theorem of_actEnd {i : Instr} (h : s.Inv) (he : ActEnd i s t) : t.Inv := by
  cases he with
  | started d k dir a hi hl hk hdir ha hbus hs ht => subst ht; exact { h with shift := fun _ => rfl, pstate := nofun }
  | ackPrep p hi hs ht =>
    subst ht
    have hp : ∀ k, p ≠ .reserved k := by rcases hi with ⟨-, rfl⟩ | ⟨-, rfl⟩ <;> exact nofun
    exact (h.armed .rx1).setPstate hp
  | nacked code hi hs ht =>
    subst ht
    have herr : code = errNackAddr ∨ code = errNackData := hi.imp And.right And.right
    exact { h with err := .inr herr, shift := fun _ => rfl, pstate := nofun }
  | suspended d k hi hl hk hsus hr ht => subst ht; exact h.yielded
  | restarted d k hi hl hk hres hn hs ht => subst ht; exact (h.armed _).yielded.setPstate nofun
  | stopping d k hi hl hk hstop hs ht => subst ht; exact (h.armed _).setPstate nofun
  | sent d r c hi hl hr h0 hc hadm hs ht => subst ht; exact ((h.armed _).advance d r c).setPstate nofun
  | receiving hi hs ht => subst ht; exact (h.armed _).setPstate nofun
  | stored d r c b n hi hl hr h0 hsr hc hadm hs ht =>
    subst ht
    exact (((h.memWrite c b).advance d r c).armed _).setPstate nofun
  | stopped hi hb ht => subst ht; exact { h with signalling := nofun, pstate := nofun }

theorem of_stepEnd {i : Instr} (h : s.Inv) (hwf : i.wf s.cfg = true) (he : StepEnd i s t) : t.Inv := by
  cases he with
  | engine p hi hr he => exact of_actEnd (s := s.setAsleep false) { h with } he
  | armed op hi hs ht => subst ht; exact h.armed op
  | startIssued hi hb ht => subst ht; exact { h with }
  | stopIssued hi hb ht => subst ht; exact { h with }
  | same hi ht => subst ht; exact h
  | value v hi ht => subst ht; exact { h with }
  | startedLive d hi he ht =>
    subst hi ht
    have hd : d.val < s.cfg.nDesc := of_decide_eq_true hwf
    exact { h with live := fun _ hk => Option.some.inj hk ▸ hd, signalling := fun _ => nofun }
  | resumed hi hl ht => subst ht; exact h.signalled hl
  | forced d hi hl ht =>
    subst ht
    have hd : (s.setDesc d { s.desc d with rem := some 0 }).Inv := h.setDesc d ⟨h.kind d, h.cont d⟩
    exact hd.signalled (by simp [hl])
  | descWritten d f v hi ho ht =>
    subst hi ht
    exact h.setDesc d ((h.legal d).writeField (by simpa using (Bool.and_eq_true_iff.mp hwf).2))
  | memWritten a v hi hadm ht => subst ht; exact h.memWrite a v
  | busyWritten b hi ht => subst ht; exact { h with }
  | eventWritten b hi ht => subst ht; exact { h with }
  | released d hi hl he ht =>
    subst ht
    have hd : (s.setDesc d { s.desc d with kind := some .idle }).Inv := h.setDesc d ⟨nofun, h.cont d⟩
    exact { hd with }
  | invoked c d hi hl ht => subst ht; exact { h with }
  | slept hi ht => subst ht; exact { h with }
  | woken hi ha ht => subst ht; exact { h with }
  | completed op hi hs ht => subst ht; exact h.completed op

theorem of_turnEnd {x : Turn} (h : s.Inv) (hrun : s.Running) (he : TurnEnd s t x) : t.Inv := by
  cases he with
  | ran i hr hx =>
    obtain ⟨-, ⟨f, rfl⟩ | he⟩ := exec_next hx
    · exact h.faulted hrun _
    · exact h.of_stepEnd hr.wf he
  | refused w hx ht => subst ht; exact h.refused hrun w
  | reservedState k hx hp ht => subst ht; exact h.faulted hrun _
  | returned hx ht => subst ht; exact { h with }

end State.Inv

/-- Settles O54: the turn taken off the schedule is no part of the invariant, and each normal end of a turn keeps it. -/
theorem everyStepKeepsTheStateInvariant : Obligations.EveryStepKeepsTheStateInvariant := by
  intro s t h hs
  obtain ⟨hr, x, rest, -, he⟩ := step_next hs
  have hrest : ({ s with agenda := rest } : State).Inv := { h with }
  exact hrest.of_turnEnd hr he

end Sys2Proof.Machine
end

section
/-! PROOF. Every step of the four agents keeps `State.BusInv` (R51, R52, R111). -/

namespace Sys2Proof.Machine

namespace State.BusInv

variable {s t : State}

/-- A signalled engine finds no shift in flight (R51). -/
theorem shift_none (h : s.BusInv) (hp : s.sigPend = true) : s.shift = none := by
  simpa [hp] using h.pending

/-- Between its start and its stop a transaction holds the bus (R111). -/
theorem active (h : s.BusInv) (hstart : s.pstate ≠ .start) (hstop : s.pstate ≠ .stop) : s.buscond = .active := by
  have hph := h.phase
  unfold State.busPhase at hph
  split at hph
  case h_1 hp => exact absurd hp hstart
  case h_8 hp => exact absurd hp hstop
  case h_2 | h_3 | h_4 | h_5 | h_6 | h_7 => exact hph.1
  case h_9 | h_10 | h_11 | h_12 => exact hph.elim

end State.BusInv

/-- START is the only operation of its protocol state, and STOP of its own (R91). -/
theorem start_iff_of_stepState {i : Instr} {p : PState} (h : i.stepState = some p) : p = .start ↔ i = .stepStart := by
  cases i <;> cases h <;> simp

theorem stop_iff_of_stepState {i : Instr} {p : PState} (h : i.stepState = some p) : p = .stop ↔ i = .stepStop := by
  cases i <;> cases h <;> simp

namespace State.BusInv

variable {s t : State}

/-- R142: an engine step leaves its protocol state in one of the bus phases. -/
theorem of_actEnd {i : Instr} (h : s.BusInv) (hi : i.stepState = some s.pstate) (hpend : s.sigPend = true)
    (he : ActEnd i s t) : t.BusInv := by
  have between (h1 : i ≠ .stepStart) (h2 : i ≠ .stepStop) : s.buscond = .active ∧ s.ghostDir ≠ none :=
    have hstart := (start_iff_of_stepState hi).not.mpr h1
    ⟨h.active hstart ((stop_iff_of_stepState hi).not.mpr h2), h.ghost hstart⟩
  have check {j : Instr} (hc : i = .stepAddrAckCheck ∨ i = .stepDataAckCheck ∨ i = .stepRxAckSent ∨ i = j)
      (h1 : j ≠ .stepStart) (h2 : j ≠ .stepStop) : s.buscond = .active ∧ s.ghostDir ≠ none := by
    obtain rfl | rfl | rfl | rfl := hc
    · exact between nofun nofun
    · exact between nofun nofun
    · exact between nofun nofun
    · exact between h1 h2
  cases he with
  | started d k dir a hi hl hk hdir ha hbus hs ht => subst ht; exact ⟨rfl, ⟨rfl, .inr ⟨_, rfl⟩⟩, fun _ => nofun⟩
  | ackPrep p hi hs ht =>
    subst ht
    obtain ⟨rfl, rfl⟩ | ⟨rfl, rfl⟩ := hi
    all_goals
      obtain ⟨hb, hg⟩ := between nofun nofun
      exact ⟨rfl, ⟨hb, .inr rfl⟩, fun _ => hg⟩
  | nacked code hi hs ht =>
    subst ht
    obtain ⟨rfl, rfl⟩ | ⟨rfl, rfl⟩ := hi
    all_goals
      obtain ⟨hb, hg⟩ := between nofun nofun
      exact ⟨rfl, .inr ⟨rfl, hb⟩, fun _ => hg⟩
  | suspended d k hi hl hk hsus hr ht => subst ht; exact ⟨h.pending, h.phase, h.ghost⟩
  | restarted d k hi hl hk hres hn hs ht =>
    subst ht
    obtain ⟨hb, hg⟩ := check hi nofun nofun
    exact ⟨rfl, .inr ⟨rfl, hb⟩, fun _ => hg⟩
  | stopping d k hi hl hk hstop hs ht =>
    subst ht
    obtain ⟨hb, hg⟩ := check hi nofun nofun
    exact ⟨rfl, .inr ⟨rfl, hb⟩, fun _ => hg⟩
  | sent d r c hi hl hr h0 hc hadm hs ht =>
    subst ht
    obtain ⟨hb, hg⟩ := check hi nofun nofun
    exact ⟨rfl, ⟨hb, .inr ⟨_, rfl⟩⟩, fun _ => hg⟩
  | receiving hi hs ht =>
    subst ht
    obtain ⟨hb, hg⟩ := check hi nofun nofun
    exact ⟨rfl, ⟨hb, .inr rfl⟩, fun _ => hg⟩
  | stored d r c b n hi hl hr h0 hsr hc hadm hs ht =>
    subst hi ht
    obtain ⟨hb, hg⟩ := between nofun nofun
    exact ⟨rfl, ⟨hb, .inr ⟨_, rfl⟩⟩, fun _ => hg⟩
  | stopped hi hb ht =>
    subst ht
    exact ⟨h.pending, .inl ⟨h.shift_none hpend, .inl rfl⟩, fun hp => absurd rfl hp⟩

/-- R113, R114: a completed shift leaves `SR` written and the bus where its protocol state expects it. -/
theorem completed {op : ShiftOp} (h : s.BusInv) (hs : s.shift = some op) : (s.completeShift op).BusInv := by
  refine ⟨by simp, ?_, by simpa using h.ghost⟩
  have hph := h.phase
  unfold State.busPhase at hph ⊢
  rw [completeShift_pstate, completeShift_shift, completeShift_buscond, completeShift_sr]
  cases hp : s.pstate <;> simp only [hp, hs, reduceCtorEq, Option.some.injEq, false_and, false_or] at hph
  case start => obtain ⟨rfl, -⟩ := hph; exact .inl ⟨rfl, .inr rfl⟩
  case stop => obtain ⟨rfl, -⟩ := hph; exact .inl ⟨rfl, rfl⟩
  case addrAckPrep | dataAckPrep | rxAckSent => obtain ⟨hb, x, rfl⟩ := hph; exact ⟨hb, .inl rfl⟩
  case addrAckCheck | dataAckCheck | receiveStore => obtain ⟨hb, rfl⟩ := hph; exact ⟨hb, .inl ⟨rfl, nofun⟩⟩

theorem of_stepEnd {i : Instr} (h : s.BusInv) (hprim : i.isPrimitive = false) (he : StepEnd i s t) : t.BusInv := by
  cases he with
  | engine p hi hr he =>
    obtain ⟨-, -, hpend, hp⟩ := hr
    exact of_actEnd (s := s.setAsleep false) ⟨h.pending, h.phase, h.ghost⟩ (hp ▸ hi) hpend he
  | armed op hi => cases hprim.symm.trans hi
  | startIssued hi => subst hi; cases hprim
  | stopIssued hi => subst hi; cases hprim
  | completed op hi hs ht => subst ht; exact h.completed hs
  | same | value | startedLive | resumed | forced | descWritten | memWritten | busyWritten | eventWritten
  | released | invoked | slept | woken =>
    rename_i ht
    subst ht
    exact ⟨h.pending, h.phase, h.ghost⟩

end State.BusInv

/-- Only a primitive turn runs a primitive. -/
theorem Runs.not_primitive {s : State} {x : Turn} {i : Instr} (h : Runs s x i) (hx : ∀ w, x ≠ .primitive w) :
    i.isPrimitive = false := by
  cases h with
  | foreground w i ha hd hi =>
    have hfg : i.issuer = .foreground := of_decide_eq_true hi
    exact (not_engine_of_issuer (by simp [hfg])).1
  | engine i hs hi => cases hp : s.pstate <;> rw [hp] at hi <;> cases hi <;> rfl
  | primitive w => exact absurd rfl (hx w)
  | shifter => rfl
  | environment => rfl

/-- R51, R52, R84, R111: a step of one of the four agents keeps the protocol invariant. -/
theorem State.BusInv.of_step {s t : State} (h : s.BusInv) (ha : s.AgentTurn) (hs : step s = .next t) : t.BusInv := by
  obtain ⟨-, x, rest, hx, he⟩ := step_next hs
  have hprim : ∀ w, x ≠ .primitive w := fun w hw => ha w (by simp [hx, hw])
  have hrest : ({ s with agenda := rest } : State).BusInv := ⟨h.pending, h.phase, h.ghost⟩
  cases he with
  | ran i hr hexec =>
    obtain ⟨-, ⟨f, rfl⟩ | he⟩ := exec_next hexec
    · exact ⟨h.pending, h.phase, h.ghost⟩
    · exact hrest.of_stepEnd (hr.not_primitive hprim) he
  | refused w hw ht => subst ht; exact ⟨h.pending, h.phase, h.ghost⟩
  | reservedState k hw hp ht => subst ht; exact ⟨h.pending, h.phase, h.ghost⟩
  | returned hw ht => subst ht; exact ⟨h.pending, h.phase, h.ghost⟩

end Sys2Proof.Machine
end

section
/-! PROOF. A ThenStop transaction in flight: what each agent's step does to it, and how many engine steps are left
(R143 to R145, R239). -/

namespace Sys2Proof.Machine

/-! ### Engine steps left -/

/-- The most engine steps that a transaction with `r` bytes to move takes from a protocol state to its stop-yield, the
next step among them: START, two steps of the address acknowledgement, two steps a byte, STOP. -/
def engineStepsLeft (p : PState) (r : Nat) : Nat :=
  match p with
  | .start => 2 * r + 4
  | .addrAckPrep | .dataAckPrep => 2 * r + 3
  | .addrAckCheck | .dataAckCheck | .rxAckSent | .sendByte | .receiveByte | .prepareStop => 2 * r + 2
  | .receiveStore => 2 * r + 1
  | .stop | .reserved _ => 1

theorem engineStepsLeft_pos (p : PState) (r : Nat) : 1 ≤ engineStepsLeft p r := by
  cases p <;> simp [engineStepsLeft]

theorem engineStepsLeft_mono (p : PState) {q r : Nat} (h : q ≤ r) : engineStepsLeft p q ≤ engineStepsLeft p r := by
  cases p <;> simp [engineStepsLeft, h]

/-- `REM` as a number, 0 where it is unwritten. -/
def Desc.bytesLeft (x : Desc) : Nat := (x.rem.getD 0).toNat

theorem Desc.bytesLeft_of_rem {x : Desc} {r : Half} (h : x.rem = some r) : x.bytesLeft = r.toNat := by
  simp [Desc.bytesLeft, h]

def State.stepsLeft (s : State) (d : DescRef) : Nat := engineStepsLeft s.pstate (s.desc d).bytesLeft

/-! ### The live descriptor under way -/

/-- What a step can make of the live descriptor `x` of the engine. -/
inductive Desc.Follows (x : Desc) : Desc → Prop
  | kept : Desc.Follows x x
  /-- `force_stop` (R154) -/
  | forced : Desc.Follows x { x with rem := some 0 }
  /-- one data byte moved (R133, R137) -/
  | moved (r c : Half) (hr : x.rem = some r) (h0 : r ≠ 0) (hc : x.cur = some c) :
      Desc.Follows x { x with rem := some (r - 1), cur := some (c + 1) }

/-- The bytes still to move lie in admitted memory (R64). -/
def Desc.BufferAdmitted (cfg : Config) (x : Desc) : Prop :=
  ∃ c, x.cur = some c ∧ ∀ j, j < x.bytesLeft → admits cfg (c + BitVec.ofNat 16 j) = true

/-- `r - 1` does not wrap where a byte is left. -/
theorem toNat_pred {r : Half} (h : r ≠ 0) : (r - 1).toNat + 1 = r.toNat := by
  have h0 : r.toNat ≠ 0 := fun hr => h (BitVec.eq_of_toNat_eq hr)
  bv_omega

namespace Desc.Follows

variable {x y : Desc}

theorem kind (h : x.Follows y) : y.kind = x.kind := by cases h <;> rfl

theorem addr (h : x.Follows y) : y.addr = x.addr := by cases h <;> rfl

theorem wellFormed (h : x.Follows y) : y.wellFormed = x.wellFormed := by
  simp only [Desc.wellFormed, h.kind, h.addr]

theorem rem (h : x.Follows y) (hx : x.rem ≠ none) : y.rem ≠ none := by
  cases h with
  | kept => exact hx
  | forced => nofun
  | moved => nofun

theorem bytesLeft_le (h : x.Follows y) : y.bytesLeft ≤ x.bytesLeft := by
  cases h with
  | kept => exact Nat.le_refl _
  | forced => exact Nat.zero_le _
  | moved r c hr h0 hc =>
    have := toNat_pred h0
    rw [Desc.bytesLeft_of_rem hr, Desc.bytesLeft_of_rem rfl]
    omega

theorem bufferAdmitted {cfg : Config} (h : x.Follows y) (hx : x.BufferAdmitted cfg) : y.BufferAdmitted cfg := by
  obtain ⟨c, hc, hadm⟩ := hx
  cases h with
  | kept => exact ⟨c, hc, hadm⟩
  | forced => exact ⟨c, hc, fun j hj => absurd hj (Nat.not_lt_zero j)⟩
  | moved r b hr h0 hb =>
    cases hc.symm.trans hb
    refine ⟨c + 1, rfl, fun j hj => ?_⟩
    have hpred := toNat_pred h0
    rw [Desc.bytesLeft_of_rem rfl] at hj
    have hnext : c + 1 + BitVec.ofNat 16 j = c + BitVec.ofNat 16 (j + 1) := by
      rw [Nat.add_comm j 1, BitVec.ofNat_add, ← BitVec.add_assoc]
      rfl
    rw [hnext]
    exact hadm (j + 1) (by rw [Desc.bytesLeft_of_rem hr]; omega)

end Desc.Follows

/-- R41, R53: the operations of the other agents leave the protocol state, the ownership and the live descriptor to the
engine. -/
theorem StepEnd.others {i : Instr} {s t : State} {d : DescRef} (h : StepEnd i s t) (hi : i.issuer ≠ .engine)
    (he : s.sigEn = true) (hl : s.live = some d) :
    t.pstate = s.pstate ∧ t.sigEn = true ∧ t.live = some d ∧ (s.desc d).Follows (t.desc d) := by
  obtain ⟨hprim, hstep⟩ := not_engine_of_issuer hi
  cases h with
  | engine p hp => cases hstep.symm.trans hp
  | armed op hp => cases hprim.symm.trans hp
  | startIssued hp => subst hp; cases hprim
  | stopIssued hp => subst hp; cases hprim
  | startedLive k hk hen => cases he.symm.trans hen
  | released k hk hlk hen => cases he.symm.trans hen
  | forced k hk hlk ht =>
    subst ht
    cases hl.symm.trans hlk
    refine ⟨rfl, rfl, hl, ?_⟩
    show (s.desc d).Follows ((s.setDesc d { s.desc d with rem := some 0 }).desc d)
    rw [setDesc_desc_same]
    exact .forced
  | descWritten k f v hk ho ht =>
    subst ht
    have hne : d ≠ k := fun hdk => ho ⟨hdk ▸ hl, he⟩
    refine ⟨rfl, he, hl, ?_⟩
    show (s.desc d).Follows ((s.setDesc k ((s.desc k).writeField f v)).desc d)
    rw [setDesc_desc_ne s k _ d hne]
    exact .kept
  | completed op hk hs ht =>
    subst ht
    rw [completeShift_pstate, completeShift_sigEn, completeShift_live, completeShift_desc]
    exact ⟨rfl, he, hl, .kept⟩
  | resumed hk hlk ht => subst ht; exact ⟨rfl, rfl, hl, .kept⟩
  | same | value | memWritten | busyWritten | eventWritten | invoked | slept | woken =>
    rename_i ht
    subst ht
    exact ⟨rfl, he, hl, .kept⟩

/-! ### A transaction in flight -/

/-- A ThenStop transaction of descriptor `d`, owned by the engine, with no primitive to be taken alone. -/
structure State.ThenStop (s : State) (d : DescRef) : Prop where
  running : s.Running
  bus : s.BusInv
  enabled : s.sigEn = true
  live : s.live = some d
  kind : ∃ k, (s.desc d).kind = some k ∧ (k = .sendThenStop ∨ k = .receiveThenStop)
  rem : (s.desc d).rem ≠ none
  agents : ∀ w, .primitive w ∉ s.agenda

theorem ActEnd.follows {i : Instr} {s t : State} {d : DescRef} (h : ActEnd i s t) (hl : s.live = some d) :
    (s.desc d).Follows (t.desc d) := by
  have moved {e : DescRef} {r c : Half} (he : s.live = some e) (hr : (s.desc e).rem = some r) (h0 : r ≠ 0)
      (hc : (s.desc e).cur = some c) : (s.desc d).Follows ((s.advance e r c).desc d) := by
    cases hl.symm.trans he
    rw [State.advance, setDesc_desc_same]
    exact .moved r c hr h0 hc
  cases h with
  | sent e r c hi he hr h0 hc hadm hs ht => subst ht; exact moved he hr h0 hc
  | stored e r c b n hi he hr h0 hsr hc hadm hs ht => subst ht; exact moved he hr h0 hc
  | started | ackPrep | nacked | suspended | restarted | stopping | receiving | stopped =>
    rename_i ht
    subst ht
    exact .kept

/-- R133, R137: a moved byte leaves one byte less. -/
theorem bytesLeft_advance {s : State} {d : DescRef} {r c : Half} (hr : (s.desc d).rem = some r) (h0 : r ≠ 0) :
    ((s.advance d r c).desc d).bytesLeft + 1 = (s.desc d).bytesLeft := by
  rw [State.advance, setDesc_desc_same, Desc.bytesLeft_of_rem hr, Desc.bytesLeft_of_rem rfl]
  exact toNat_pred h0

/-- An act that decides or moves on leaves a state with at least `2 REM + 2` engine steps to go. -/
theorem engineStepsLeft_of_check {i j : Instr} {p : PState} (r : Nat) (hi : i.stepState = some p)
    (hc : i = .stepAddrAckCheck ∨ i = .stepDataAckCheck ∨ i = .stepRxAckSent ∨ i = j)
    (hj : j = .stepSendByte ∨ j = .stepReceiveByte ∨ j = .stepPrepareStop) : engineStepsLeft p r = 2 * r + 2 := by
  obtain rfl | rfl | rfl | rfl := hc
  · cases hi; rfl
  · cases hi; rfl
  · cases hi; rfl
  · obtain rfl | rfl | rfl := hj <;> cases hi <;> rfl

/-- R143: an engine step of a ThenStop transaction is its stop-yield or brings it nearer by one step. -/
theorem ActEnd.progress {i : Instr} {s t : State} {d : DescRef} (h : ActEnd i s t) (hs : s.ThenStop d)
    (hpend : s.sigPend = true) (hi : i.stepState = some s.pstate) :
    t.StopYielded ∨ (t.sigEn = true ∧ t.live = some d ∧ t.stepsLeft d < s.stepsLeft d) := by
  obtain ⟨k, hk, hstop⟩ := hs.kind
  have kind_eq {e : DescRef} {k' : Kind} (he : s.live = some e) (hk' : (s.desc e).kind = some k') : k' = k := by
    cases hs.live.symm.trans he
    exact Option.some.inj (hk'.symm.trans hk)
  have stays (p : PState)
      (hlt : engineStepsLeft p (s.desc d).bytesLeft < engineStepsLeft s.pstate (s.desc d).bytesLeft) :
      s.sigEn = true ∧ s.live = some d ∧ engineStepsLeft p (s.desc d).bytesLeft < s.stepsLeft d :=
    ⟨hs.enabled, hs.live, hlt⟩
  cases h with
  | started e k' dir a hst hl hk' hdir ha hbus hsh ht =>
    subst hst ht
    refine .inr (stays .addrAckPrep ?_)
    rw [← Option.some.inj hi]
    exact Nat.lt_succ_self _
  | ackPrep p hst hsh ht =>
    subst ht
    obtain ⟨rfl, rfl⟩ | ⟨rfl, rfl⟩ := hst
    all_goals
      refine .inr (stays _ ?_)
      rw [← Option.some.inj hi]
      exact Nat.lt_succ_self _
  | nacked code hst hsh ht =>
    subst ht
    refine .inr (stays .stop ?_)
    rw [engineStepsLeft_of_check _ hi (hst.imp And.left fun h => .inl h.1) (.inl rfl)]
    exact Nat.succ_lt_succ (Nat.succ_pos _)
  | suspended e k' hst hl hk' hsus hr ht =>
    rw [kind_eq hl hk'] at hsus
    obtain rfl | rfl := hstop <;> cases hsus
  | restarted e k' hst hl hk' hres hn hsh ht =>
    rw [kind_eq hl hk'] at hres
    obtain rfl | rfl := hstop <;> cases hres
  | stopping e k' hst hl hk' hst' hsh ht =>
    subst ht
    refine .inr (stays .stop ?_)
    rw [engineStepsLeft_of_check _ hi hst (.inr (.inr rfl))]
    exact Nat.succ_lt_succ (Nat.succ_pos _)
  | sent e r c hst hl hr h0 hc hadm hsh ht =>
    subst ht
    cases hs.live.symm.trans hl
    have hb := bytesLeft_advance (c := c) hr h0
    refine .inr ⟨hs.enabled, hs.live, ?_⟩
    show 2 * ((s.advance d r c).desc d).bytesLeft + 3 < engineStepsLeft s.pstate _
    rw [engineStepsLeft_of_check _ hi hst (.inl rfl)]
    omega
  | receiving hst hsh ht =>
    subst ht
    refine .inr (stays .receiveStore ?_)
    rw [engineStepsLeft_of_check _ hi hst (.inr (.inl rfl))]
    exact Nat.lt_succ_self _
  | stored e r c b n hst hl hr h0 hsr hc hadm hsh ht =>
    subst hst ht
    cases hs.live.symm.trans hl
    have hb := bytesLeft_advance (c := c) hr h0
    refine .inr ⟨hs.enabled, hs.live, ?_⟩
    show 2 * ((s.advance d r c).desc d).bytesLeft + 2 < engineStepsLeft s.pstate _
    rw [← Option.some.inj hi]
    show _ < 2 * (s.desc d).bytesLeft + 1
    omega
  | stopped hst hb ht =>
    subst ht
    exact .inl ⟨rfl, rfl, hpend, hs.bus.shift_none hpend, rfl, rfl⟩

end Sys2Proof.Machine
end

section
/-! PROOF. The turns of a ThenStop transaction: whatever agent takes one, the transaction goes on or has ended in its
stop-yield. -/

namespace Sys2Proof.Machine

/-! ### The turns of a transaction -/

theorem stepState_of_stepInstr {p : PState} {i : Instr} (h : p.stepInstr = some i) : i.stepState = some p := by
  cases p <;> cases h <;> rfl

theorem stepInstr_of_stepState {p : PState} {i : Instr} (h : i.stepState = some p) : p.stepInstr = some i := by
  cases i <;> cases h <;> rfl

/-- Under the protocol invariant an engine turn runs the act of its protocol state (R126, R142). -/
theorem TurnEnd.engine_act {s t : State} (h : TurnEnd s t .engine) (hb : s.BusInv) :
    ∃ i, i.stepState = some s.pstate ∧ s.sigPend = true ∧
      (actOf i (s.setAsleep false) = .ok t ∨ ∃ f, actOf i (s.setAsleep false) = .error f ∧ ¬ t.Running) := by
  cases h with
  | ran i hr h =>
    obtain ⟨-, hi⟩ : s.signalled = true ∧ s.pstate.stepInstr = some i := by cases hr; exact ⟨‹_›, ‹_›⟩
    have hstep := stepState_of_stepInstr hi
    rw [exec_of_stepState hstep] at h
    obtain ⟨⟨-, -, hpend, -⟩, h | ⟨f, hf, rfl⟩⟩ := engineStep_next h
    · exact ⟨i, hstep, hpend, .inl h⟩
    · exact ⟨i, hstep, hpend, .inr ⟨f, hf, fun hrun => nomatch hrun.1⟩⟩
  | refused w hx => rcases hx with hx | hx <;> cases hx
  | reservedState k hx hp =>
    have hph := hb.phase
    simp only [State.busPhase, hp] at hph
  | returned hx => cases hx

/-- A turn of another agent leaves the protocol state, the ownership and the live descriptor to the engine. -/
theorem TurnEnd.others {s t : State} {x : Turn} {d : DescRef} (h : TurnEnd s t x) (hx : x ≠ .engine)
    (hp : ∀ w, x ≠ .primitive w) (he : s.sigEn = true) (hl : s.live = some d) :
    t.pstate = s.pstate ∧ t.sigEn = true ∧ t.live = some d ∧ (s.desc d).Follows (t.desc d) := by
  cases h with
  | ran i hr h =>
    have hi : i.issuer ≠ .engine := by
      cases hr with
      | foreground w i ha hd hi => rw [of_decide_eq_true hi]; nofun
      | engine => exact absurd rfl hx
      | primitive w => exact absurd rfl (hp w)
      | shifter => nofun
      | environment => nofun
    obtain ⟨-, ⟨f, rfl⟩ | hend⟩ := exec_next h
    · exact ⟨rfl, he, hl, .kept⟩
    · exact hend.others hi he hl
  | refused w hw ht => subst ht; exact ⟨rfl, he, hl, .kept⟩
  | reservedState k hw hp ht => subst ht; exact ⟨rfl, he, hl, .kept⟩
  | returned hw ht => subst ht; exact ⟨rfl, he, hl, .kept⟩

namespace State.ThenStop

variable {s t : State} {d : DescRef}

theorem agentTurn (h : s.ThenStop d) : s.AgentTurn := fun w hw => h.agents w (List.mem_of_mem_head? hw)

/-- A running state that keeps the ownership and follows the descriptor is a state of the same transaction. -/
theorem of_follows (h : s.ThenStop d) (hr : t.Running) (hb : t.BusInv) (he : t.sigEn = true) (hl : t.live = some d)
    (hf : (s.desc d).Follows (t.desc d)) (hag : ∀ x, x ∈ t.agenda → x ∈ s.agenda) : t.ThenStop d :=
  { running := hr
    bus := hb
    enabled := he
    live := hl
    kind := hf.kind ▸ h.kind
    rem := hf.rem h.rem
    agents := fun w hw => h.agents w (hag _ hw) }

theorem setAgenda (h : s.ThenStop d) {x : Turn} {rest : List Turn} (ha : s.agenda = x :: rest) :
    ({ s with agenda := rest } : State).ThenStop d :=
  h.of_follows h.running ⟨h.bus.pending, h.bus.phase, h.bus.ghost⟩ h.enabled h.live .kept
    (fun y hy => by rw [ha]; exact List.mem_cons_of_mem x hy)

theorem awake (h : s.ThenStop d) : (s.setAsleep false).ThenStop d :=
  h.of_follows h.running ⟨h.bus.pending, h.bus.phase, h.bus.ghost⟩ h.enabled h.live .kept (fun _ hy => hy)

/-- R116, R211: while the transaction lasts, the run goes on. -/
theorem exists_next (h : s.ThenStop d) (hbus : s.BusCompletes) (heng : s.EngineServed) : ∃ t, step s = .next t := by
  apply Classical.byContradiction
  intro hn
  have hstop : ∀ t, step s ≠ .next t := fun t ht => hn ⟨t, ht⟩
  have hsh := shift_none_of_stopped hbus h.running hstop
  have hsig := signalled_false_of_stopped heng h.running hstop
  have hpend : s.sigPend = true := by simp [h.bus.pending, hsh]
  simp [State.signalled, h.enabled, hpend] at hsig

/-- A step of the transaction that neither a fault nor a refusal ends is its stop-yield, or leaves it in flight with one
engine step less to go where the turn was the engine's. -/
theorem of_step (h : s.ThenStop d) (hs : step s = .next t) (hr : t.Running) :
    t.StopYielded ∨
      (t.ThenStop d ∧ ∃ x, s.agenda = x :: t.agenda ∧ t.stepsLeft d + [x].count .engine ≤ s.stepsLeft d) := by
  obtain ⟨-, x, rest, ha, hend⟩ := step_next hs
  obtain ⟨-, hag, -⟩ := hend.keeps
  have hag : t.agenda = rest := hag
  have hb : t.BusInv := h.bus.of_step h.agentTurn hs
  have hrest := h.setAgenda ha
  have hmem : ∀ y, y ∈ t.agenda → y ∈ rest := fun y hy => hag ▸ hy
  by_cases hx : x = .engine
  · subst hx
    obtain ⟨i, hi, hpend, hact | ⟨-, -, hnr⟩⟩ := hend.engine_act hrest.bus
    · have hend := act_end (s := ({ s with agenda := rest } : State).setAsleep false) hi hact
      obtain hy | ⟨he, hl, hlt⟩ := hend.progress hrest.awake hpend hi
      · exact .inl hy
      · exact .inr ⟨hrest.of_follows hr hb he hl (hend.follows h.live) hmem, .engine, hag ▸ ha, hlt⟩
    · exact absurd hr hnr
  · have hprim : ∀ w, x ≠ .primitive w := fun w hw => h.agents w (by simp [ha, hw])
    obtain ⟨hp, he, hl, hf⟩ := hend.others hx hprim h.enabled h.live
    have hle : t.stepsLeft d ≤ s.stepsLeft d := by
      rw [State.stepsLeft, hp]
      exact engineStepsLeft_mono _ hf.bytesLeft_le
    refine .inr ⟨hrest.of_follows hr hb he hl hf hmem, x, hag ▸ ha, ?_⟩
    simpa [List.count_singleton, hx] using hle

end State.ThenStop

end Sys2Proof.Machine
end

section
/-! PROOF. Settles O57: with nothing to hinder it a ThenStop transaction raises no fault, and under `BUS_COMPLETES` it
ends. -/

namespace Sys2Proof.Machine

/-! ### The acts, forwards -/

@[simp] theorem readReg_some {α : Type} (reg : RegName) (x : α) : readReg reg (some x) = .ok x := rfl

section Forwards

variable {s : State} {d : DescRef} {k : Kind} {dir : Dir} {a : Byte} {r : Half}

theorem liveRef_of_live (hl : s.live = some d) : s.liveRef = .ok d := by simp [State.liveRef, hl]

theorem readKind_of_kind (hk : (s.desc d).kind = some k) : s.readKind d = .ok k := by simp [State.readKind, hk]

theorem kindDir_of_dirOf (hdir : dirOf k = some dir) : kindDir k = .ok dir := by simp [kindDir, hdir]

theorem checkDir_of_ghostDir (hg : s.ghostDir = some dir) : s.checkDir dir = .ok () := by simp [State.checkDir, hg]

theorem actStart_succeeds (hl : s.live = some d) (hk : (s.desc d).kind = some k) (hdir : dirOf k = some dir)
    (ha : (s.desc d).addr = some a) (hbit : addrDirBit a = dir.bit)
    (hbus : s.buscond = .idle ∨ s.buscond = .restartReady) (hs : s.shift = none) : ∃ t, actStart s = .ok t := by
  have hread : s.readAddr d = .ok a := by simp [State.readAddr, ha]
  simp only [actStart, liveRef_of_live hl, readKind_of_kind hk, kindDir_of_dirOf hdir, hread, ok_bind, hbit, if_true]
  obtain hb | hb := hbus <;> simp [State.issueStart, State.arm, State.emit, hb, hs]

theorem actAddrAckPrep_succeeds (hs : s.shift = none) : ∃ t, actAddrAckPrep s = .ok t := by
  simp [actAddrAckPrep, arm_none hs]

theorem actDataAckPrep_succeeds (hs : s.shift = none) : ∃ t, actDataAckPrep s = .ok t := by
  simp [actDataAckPrep, arm_none hs]

theorem actReceiveByte_succeeds (hs : s.shift = none) : ∃ t, actReceiveByte s = .ok t := by
  simp [actReceiveByte, arm_none hs]

theorem actStop_succeeds (hb : s.buscond = .stopReady) : ∃ t, actStop s = .ok t := by
  simp [actStop, State.issueStop, hb]

theorem actPrepareStop_succeeds (hl : s.live = some d) (hk : (s.desc d).kind = some k) (hdir : dirOf k = some dir)
    (hs : s.shift = none) : ∃ t, actPrepareStop s = .ok t := by
  simp only [actPrepareStop, liveRef_of_live hl, readKind_of_kind hk, kindDir_of_dirOf hdir, ok_bind]
  split <;> simp [restartYield, arm_none hs]

theorem actSendByte_succeeds (hl : s.live = some d) (hr : (s.desc d).rem = some r) (h0 : r ≠ 0)
    (hbuf : ∃ c, (s.desc d).cur = some c ∧ admits s.cfg c = true) (hs : s.shift = none) :
    ∃ t, actSendByte s = .ok t := by
  obtain ⟨c, hc, hadm⟩ := hbuf
  simp only [actSendByte, liveRef_of_live hl, State.readRem, hr, readReg_some, ok_bind, h0, if_false, State.readCur, hc,
    State.memRead, hadm, if_true, arm_none hs]
  exact ⟨_, rfl⟩

theorem actReceiveStore_succeeds (hl : s.live = some d) (hk : (s.desc d).kind = some k) (hdir : dirOf k = some dir)
    (hg : s.ghostDir = some dir) (hr : (s.desc d).rem = some r) (h0 : r ≠ 0) (hsr : s.sr ≠ none)
    (hbuf : ∃ c, (s.desc d).cur = some c ∧ admits s.cfg c = true) (hs : s.shift = none) :
    ∃ t, actReceiveStore s = .ok t := by
  obtain ⟨c, hc, hadm⟩ := hbuf
  obtain ⟨b, hb⟩ := Option.ne_none_iff_exists'.mp hsr
  simp only [actReceiveStore, liveRef_of_live hl, State.readRem, hr, readReg_some, ok_bind, h0, if_false,
    readKind_of_kind hk, kindDir_of_dirOf hdir, checkDir_of_ghostDir hg, State.readReceivedByte, hb, State.readCur, hc,
    State.memWrite, hadm, if_true, State.advance]
  rw [arm_none (by exact hs)]
  exact ⟨_, rfl⟩

theorem afterAck_succeeds (hl : s.live = some d) (hk : (s.desc d).kind = some k) (hdir : dirOf k = some dir)
    (hg : s.ghostDir = some dir) (hr : (s.desc d).rem = some r)
    (hbuf : r ≠ 0 → ∃ c, (s.desc d).cur = some c ∧ admits s.cfg c = true) (hs : s.shift = none) :
    ∃ t, afterAck s = .ok t := by
  have hread : s.readRem d = .ok r := by simp [State.readRem, hr]
  simp only [afterAck, liveRef_of_live hl, readKind_of_kind hk, kindDir_of_dirOf hdir, checkDir_of_ghostDir hg, hread,
    ok_bind]
  split
  case isTrue =>
    split
    · exact ⟨_, rfl⟩
    · exact actPrepareStop_succeeds (s := s.setPstate .prepareStop) hl hk hdir hs
  case isFalse h0 =>
    cases dir with
    | w => exact actSendByte_succeeds (s := s.setPstate .sendByte) hl hr h0 (hbuf h0) hs
    | r => exact actReceiveByte_succeeds (s := s.setPstate .receiveByte) hs

/-- An acknowledgement check succeeds where both of its branches do. -/
theorem readAckBit_succeeds {nack ack : State → Except ModelFault State} (hsr : s.sr ≠ none)
    (hn : ∃ t, nack s = .ok t) (ha : ∃ t, ack s = .ok t) :
    ∃ t, (s.readAckBit >>= fun n => if n then nack s else ack s) = .ok t := by
  obtain ⟨b, hb⟩ := Option.ne_none_iff_exists'.mp hsr
  simp only [State.readAckBit, hb, readReg_some, ok_bind]
  split
  · exact hn
  · exact ha

theorem nackFail_succeeds (code : BitVec 4) (hl : s.live = some d) (hk : (s.desc d).kind = some k)
    (hdir : dirOf k = some dir) (hs : s.shift = none) : ∃ t, nackFail code s = .ok t :=
  actPrepareStop_succeeds (s := ((s.setErr code).setNackf true).setPstate .prepareStop) hl hk hdir hs

end Forwards

/-! ### A transaction that nothing hinders -/

/-- No turn of the host program, a well-formed descriptor whose buffer is admitted, the direction latched, and a byte to
store where one has been received. -/
structure State.Unhindered (s : State) (d : DescRef) : Prop where
  host : s.noHostTurn = true
  wellFormed : (s.desc d).wellFormed = true
  buffer : (s.desc d).BufferAdmitted s.cfg
  ghost : s.pstate ≠ .start → s.ghostDir = (s.desc d).kind.bind dirOf
  receiving : s.pstate = .receiveStore → (s.desc d).bytesLeft ≠ 0

/-- R25: a well-formed descriptor has a directed kind and an address whose bit 0 is its direction. -/
theorem Desc.fields_of_wellFormed {x : Desc} (h : x.wellFormed = true) :
    ∃ k dir a, x.kind = some k ∧ dirOf k = some dir ∧ x.addr = some a ∧ addrDirBit a = dir.bit := by
  unfold Desc.wellFormed at h
  split at h
  case h_1 k a hk ha =>
    split at h
    case h_1 dir hdir => exact ⟨k, dir, a, hk, hdir, ha, by simpa using h⟩
    case h_2 => cases h
  case h_2 => cases h

theorem Desc.BufferAdmitted.head {cfg : Config} {x : Desc} (h : x.BufferAdmitted cfg) (hx : x.bytesLeft ≠ 0) :
    ∃ c, x.cur = some c ∧ admits cfg c = true := by
  obtain ⟨c, hc, hadm⟩ := h
  exact ⟨c, hc, by simpa using hadm 0 (Nat.pos_of_ne_zero hx)⟩

theorem Desc.bytesLeft_ne_zero {x : Desc} {r : Half} (hr : x.rem = some r) : x.bytesLeft ≠ 0 ↔ r ≠ 0 := by
  rw [Desc.bytesLeft_of_rem hr, ne_eq, ne_eq, ← BitVec.toNat_inj]
  rfl

/-- R143: an act of an unhindered transaction raises no fault. -/
theorem act_succeeds {s : State} {d : DescRef} {i : Instr} (h : s.ThenStop d) (hu : s.Unhindered d)
    (hpend : s.sigPend = true) (hi : i.stepState = some s.pstate) : ∃ t, actOf i s = .ok t := by
  have hs := h.bus.shift_none hpend
  have hph := h.bus.phase
  obtain ⟨k, dir, a, hk, hdir, ha, hbit⟩ := Desc.fields_of_wellFormed hu.wellFormed
  obtain ⟨r, hr⟩ := Option.ne_none_iff_exists'.mp h.rem
  have hbuf (h0 : r ≠ 0) := hu.buffer.head ((Desc.bytesLeft_ne_zero hr).mpr h0)
  have hack (hp : s.pstate ≠ .start) : ∃ t, afterAck s = .ok t :=
    afterAck_succeeds h.live hk hdir (by rw [hu.ghost hp, hk]; exact hdir) hr hbuf hs
  have hi := stepInstr_of_stepState hi
  cases hp : s.pstate <;> simp only [State.busPhase, hp, hs, reduceCtorEq, exists_const, or_false, false_and,
    true_and, and_true] at hph <;> rw [hp] at hi <;> cases hi
  case start => exact actStart_succeeds h.live hk hdir ha hbit hph hs
  case addrAckPrep => exact actAddrAckPrep_succeeds hs
  case dataAckPrep => exact actDataAckPrep_succeeds hs
  case addrAckCheck =>
    exact readAckBit_succeeds hph.2 (nackFail_succeeds errNackAddr h.live hk hdir hs) (hack (by simp [hp]))
  case dataAckCheck =>
    exact readAckBit_succeeds hph.2 (nackFail_succeeds errNackData h.live hk hdir hs) (hack (by simp [hp]))
  case receiveStore =>
    have h0 : r ≠ 0 := (Desc.bytesLeft_ne_zero hr).mp (hu.receiving hp)
    have hg : s.ghostDir = some dir := by rw [hu.ghost (by simp [hp]), hk]; exact hdir
    exact actReceiveStore_succeeds h.live hk hdir hg hr h0 hph.2 (hbuf h0) hs
  case rxAckSent => exact hack (by simp [hp])
  case stop => exact actStop_succeeds hph

/-! ### Staying unhindered -/

/-- Where a positive acknowledgement leads to the next received byte, one is left to receive (R131). -/
theorem bytesLeft_of_afterAck {s t : State} {d : DescRef} (h : afterAck s = .ok t) (hl : s.live = some d)
    (hs : s.pstate ≠ .receiveStore) (ht : t.pstate = .receiveStore) : (t.desc d).bytesLeft ≠ 0 := by
  obtain ⟨e, k, dir, r, he, -, -, -, hr, h⟩ := afterAck_ok h
  cases hl.symm.trans he
  obtain ⟨-, -, rfl⟩ | ⟨-, -, h⟩ | ⟨-, -, h⟩ | ⟨h0, -, h⟩ := h
  · exact absurd ht hs
  · obtain ⟨_, _, _, _, _, _, _, ⟨-, -, rfl⟩ | ⟨-, rfl⟩⟩ := actPrepareStop_ok h <;> cases ht
  · obtain ⟨_, _, _, _, _, _, _, _, _, rfl⟩ := actSendByte_ok h
    cases ht
  · obtain ⟨-, rfl⟩ := actReceiveByte_ok h
    exact (Desc.bytesLeft_ne_zero hr).mpr h0

/-- An engine step goes to RECEIVE_STORE only with a byte left to receive. -/
theorem bytesLeft_of_act {i : Instr} {s t : State} {d : DescRef} (h : s.ThenStop d) (hi : i.stepState = some s.pstate)
    (hact : actOf i s = .ok t) (ht : t.pstate = .receiveStore) : (t.desc d).bytesLeft ≠ 0 := by
  have hph := h.bus.phase
  have hi := stepInstr_of_stepState hi
  cases hp : s.pstate <;> rw [hp] at hi <;> cases hi <;> simp only [actOf] at hact
  case start => obtain ⟨_, _, _, _, _, _, _, _, _, _, _, rfl⟩ := actStart_ok hact; cases ht
  case addrAckPrep => obtain ⟨-, rfl⟩ := actAddrAckPrep_ok hact; cases ht
  case dataAckPrep => obtain ⟨-, rfl⟩ := actDataAckPrep_ok hact; cases ht
  case addrAckCheck =>
    obtain ⟨_, -, ⟨-, hact⟩ | ⟨-, hact⟩⟩ := actAddrAckCheck_ok hact
    · obtain ⟨_, _, _, _, _, _, _, rfl⟩ := nackFail_ok hact; cases ht
    · exact bytesLeft_of_afterAck hact h.live (by simp [hp]) ht
  case dataAckCheck =>
    obtain ⟨_, -, ⟨-, hact⟩ | ⟨-, hact⟩⟩ := actDataAckCheck_ok hact
    · obtain ⟨_, _, _, _, _, _, _, rfl⟩ := nackFail_ok hact; cases ht
    · exact bytesLeft_of_afterAck hact h.live (by simp [hp]) ht
  case rxAckSent => exact bytesLeft_of_afterAck hact h.live (by simp [hp]) ht
  case receiveStore => obtain ⟨_, _, _, _, _, _, _, _, _, _, _, _, _, _, _, _, rfl⟩ := actReceiveStore_ok hact; cases ht
  case stop => obtain ⟨-, rfl⟩ := actStop_ok hact; cases ht
  case sendByte | receiveByte | prepareStop => simp only [State.busPhase, hp] at hph

/-- R40: only START latches a direction. -/
theorem ActEnd.ghostDir_of_ne_start {i : Instr} {s t : State} (h : ActEnd i s t) (hi : i ≠ .stepStart) :
    t.ghostDir = s.ghostDir := by
  cases h with
  | started d k dir a hst => exact absurd hst hi
  | ackPrep | nacked | suspended | restarted | stopping | sent | receiving | stored | stopped =>
    rename_i ht
    subst ht
    rfl

/-- R40: from START on, the latched direction is that of the kind. -/
theorem ghostDir_of_act {i : Instr} {s t : State} {d : DescRef} (h : s.ThenStop d) (hu : s.Unhindered d)
    (hi : i.stepState = some s.pstate) (hact : actOf i s = .ok t) : t.ghostDir = (s.desc d).kind.bind dirOf := by
  by_cases hst : i = .stepStart
  · subst hst
    obtain ⟨e, k, dir, a, hl, hk, hdir, -, -, -, -, rfl⟩ := actStart_ok hact
    cases h.live.symm.trans hl
    rw [hk]
    exact hdir.symm
  · rw [(act_end hi hact).ghostDir_of_ne_start hst]
    exact hu.ghost ((start_iff_of_stepState hi).not.mpr hst)

theorem noHostTurn_cons {s : State} {x : Turn} {rest : List Turn} (h : s.noHostTurn = true)
    (ha : s.agenda = x :: rest) :
    x.isHostProgram = false ∧ rest.all (fun y => !y.isHostProgram) = true := by
  simpa [State.noHostTurn, ha] using h

/-- The shifter's and the environment's turns raise no fault and leave to the engine all that an act reads but `SR`. -/
theorem TurnEnd.bystander {s t : State} {x : Turn} (h : TurnEnd s t x) (hx : x ≠ .engine) (hp : ∀ w, x ≠ .primitive w)
    (hh : x.isHostProgram = false) (hr : s.Running) :
    t.Running ∧ t.pstate = s.pstate ∧ t.ghostDir = s.ghostDir ∧ t.descs = s.descs := by
  cases h with
  | ran i hrun h =>
    cases hrun with
    | foreground => cases hh
    | engine => exact absurd rfl hx
    | primitive w => exact absurd rfl (hp w)
    | shifter =>
      obtain ⟨-, op, -, rfl⟩ := execShiftComplete_next h
      exact ⟨⟨by simp [hr.1], by simp [hr.2]⟩, by simp, by simp, by simp⟩
    | environment =>
      obtain ⟨-, -, rfl⟩ := execExtStimulus_next h
      exact ⟨hr, rfl, rfl, rfl⟩
  | refused w hw =>
    obtain rfl | rfl := hw
    · cases hh
    · exact absurd rfl (hp w)
  | reservedState k hw => exact absurd hw hx
  | returned hw => subst hw; cases hh

namespace State.Unhindered

variable {s t : State} {d : DescRef}

/-- A turn of an unhindered transaction raises no fault and leaves it unhindered. -/
theorem of_step (hu : s.Unhindered d) (h : s.ThenStop d) (hs : step s = .next t) : t.Running ∧ t.Unhindered d := by
  obtain ⟨-, x, rest, ha, hend⟩ := step_next hs
  obtain ⟨hcfg, hag, -⟩ := hend.keeps
  obtain ⟨hh, hrest⟩ := noHostTurn_cons hu.host ha
  have hhost : t.noHostTurn = true := by rw [State.noHostTurn, hag]; exact hrest
  by_cases hx : x = .engine
  · subst hx
    have hawake := (h.setAgenda ha).awake
    have huawake : (({ s with agenda := rest } : State).setAsleep false).Unhindered d :=
      { hu with host := hrest }
    obtain ⟨i, hi, hpend, hact⟩ := hend.engine_act (h.setAgenda ha).bus
    obtain ⟨t', ht'⟩ := act_succeeds hawake huawake hpend hi
    obtain hact | ⟨f, hf, -⟩ := hact
    · have hact_end := act_end hi hact
      have hf := hact_end.follows hawake.live
      refine ⟨hact_end.carries.running h.running, hhost, hf.wellFormed.trans hu.wellFormed, ?_, fun _ => ?_,
        bytesLeft_of_act hawake hi hact⟩
      · rw [hcfg]
        exact hf.bufferAdmitted hu.buffer
      · rw [ghostDir_of_act hawake huawake hi hact, hf.kind]
    · cases hf.symm.trans ht'
  · have hprim : ∀ w, x ≠ .primitive w := fun w hw => h.agents w (by simp [ha, hw])
    obtain ⟨hr, hp, hg, hd⟩ := hend.bystander hx hprim hh h.running
    have hdesc : t.desc d = s.desc d := by simp only [State.desc, hd]
    exact ⟨hr,
      { host := hhost
        wellFormed := hdesc ▸ hu.wellFormed
        buffer := by rw [hdesc, hcfg]; exact hu.buffer
        ghost := by rw [hdesc, hp, hg]; exact hu.ghost
        receiving := by rw [hdesc, hp]; exact hu.receiving }⟩

end State.Unhindered

/-! ### The end of the transaction -/

theorem run_succ {s u t : State} {n : Nat} (hs : step s = .next u) (h : Host.Core.run core n u = .next t) :
    Host.Core.run core (n + 1) s = .next t := by
  simpa only [Host.Core.run, show core.step s = .next u from hs] using h

/-- R116, R143, R239: by induction on the schedule, of which every step takes one turn. -/
theorem State.ThenStop.ends {s : State} {d : DescRef} (h : s.ThenStop d) (hbus : s.BusCompletes)
    (heng : s.EngineServed) :
    ∃ n t, Host.Core.run core n s = .next t ∧ (s.agenda.take n).count .engine ≤ s.stepsLeft d ∧
      (t.Running → t.StopYielded) ∧ (s.Unhindered d → t.Running) := by
  induction ha : s.agenda generalizing s with
  | nil =>
    obtain ⟨u, hu⟩ := h.exists_next hbus heng
    obtain ⟨-, x, rest, hx, -⟩ := step_next hu
    cases ha.symm.trans hx
  | cons x rest ih =>
    obtain ⟨u, hu⟩ := h.exists_next hbus heng
    have hcount : ((x :: rest).take 1).count .engine ≤ s.stepsLeft d :=
      (List.count_le_length.trans (by simp)).trans (engineStepsLeft_pos _ _)
    have hone : Host.Core.run core 1 s = .next u := run_succ hu rfl
    by_cases hr : u.Running
    · obtain hy | ⟨hnext, y, hy, hle⟩ := h.of_step hu hr
      · exact ⟨1, u, hone, hcount, fun _ => hy, fun _ => hr⟩
      · obtain ⟨rfl, rfl⟩ : x = y ∧ rest = u.agenda := by simpa [ha] using hy
        obtain ⟨n, t, hrun, hn, hend, hsafe⟩ := ih hnext (hbus.next hu) (heng.next hu) rfl
        refine ⟨n + 1, t, run_succ hu hrun, ?_, hend, fun hs => hsafe (hs.of_step h hu).2⟩
        rw [List.take_succ_cons, ← List.singleton_append, List.count_append]
        omega
    · exact ⟨1, u, hone, hcount, fun hr' => absurd hr' hr, fun hs => (hs.of_step h hu).1⟩

/-- Settles O57: the transaction is in flight at its START, with `2 REM + 4` engine steps to go. -/
theorem thenStopTransactionEndsWhenTheBusCompletes : Obligations.ThenStopTransactionEndsWhenTheBusCompletes := by
  intro s d k r hr hbus hp hen hl hk hkind hrem hag hcomp heng
  have h : s.ThenStop d := ⟨hr, hbus, hen, hl, ⟨k, hk, hkind⟩, by simp [hrem], hag⟩
  have hleft : s.stepsLeft d = 2 * r.toNat + 4 := by
    rw [State.stepsLeft, hp, Desc.bytesLeft_of_rem hrem]
    rfl
  obtain ⟨n, t, hrun, hn, hend, hsafe⟩ := h.ends hcomp heng
  refine ⟨n, t, hrun, hleft ▸ hn, hend, fun hwf hhost hbuf => hsafe ?_⟩
  exact
    { host := hhost
      wellFormed := hwf
      buffer := by rw [Desc.BufferAdmitted, Desc.bytesLeft_of_rem hrem]; exact hbuf
      ghost := fun hne => absurd hp hne
      receiving := by rw [hp]; nofun }

end Sys2Proof.Machine
end

section
/-! PROOF. Settles O7, O8 and O55: the turns that refuse a word, the states without a further step, and the protocol
invariant. -/

namespace Sys2Proof.Machine

/-- Settles O55: each normal end of an agent's turn keeps the protocol invariant. -/
theorem everyAgentStepKeepsTheProtocolInvariant : Obligations.EveryAgentStepKeepsTheProtocolInvariant :=
  fun _ _ h ha hs => h.of_step ha hs

/-! ### Refused words -/

/-- R91, R93: an operation whose byte is a primitive's or an agent step's is not a program's to issue. -/
theorem not_issuable_of_decode {cfg : Config} {w : Word} {i : Instr} (h : decode cfg w = .ok i)
    (hop : (opField w).toNat ≤ 0x0B ∨ (opField w).toNat ∈ List.range' 0x40 11 ∨ (opField w).toNat = 0x50 ∨
      (opField w).toNat = 0x70) : i.issuable = false := by
  unfold decode at h
  split at h
  case h_2 => rw [formatB_ok h]; rfl
  case h_12 | h_13 | h_14 | h_15 | h_16 | h_17 | h_18 | h_19 | h_20 | h_21 | h_22 | h_23 | h_24 | h_25 | h_38 | h_39 =>
    rename_i hn
    rw [hn] at hop
    exact absurd hop (by decide)
  case h_41 => cases h
  all_goals rw [← (formatN_ok h).1]; rfl

/-- R92, R93, R207: a word that comes to no operation a program may issue sets the refusal mark. -/
theorem step_of_refused {s : State} {w : Word} {rest : List Turn} (hr : s.ForegroundReady)
    (ha : s.agenda = .foreground w :: rest) (hw : ∀ i, decode s.cfg w = .ok i → i.issuable = false) :
    step s = .next { s with agenda := rest, refused := some w } := by
  have hmark : (s.setAgenda rest).refuse w = { s with agenda := rest, refused := some w } := by
    simp only [State.refuse, setAgenda_refused, hr.1.2]
    rfl
  have hf : fetchTurn (.foreground w) (s.setAgenda rest) =
      .done (.next { s with agenda := rest, refused := some w }) := by
    rw [← hmark]
    cases hd : decode s.cfg w with
    | error e => simp [fetchTurn, fetchForeground, hr.2, hd, refuseWord]
    | ok i => simp [fetchTurn, fetchForeground, hr.2, hd, hw i hd, refuseWord]
  simp only [step, fetch_running hr.1 ha, hf]

/-- Settles O7: neither kind of word comes to an operation a program may issue. -/
theorem refusedWordOnlySetsTheMark : Obligations.RefusedWordOnlySetsTheMark := by
  intro s w rest hr ha hw
  refine step_of_refused hr ha fun i hd => ?_
  obtain ⟨e, he⟩ | hop := hw
  · cases he.symm.trans hd
  · exact not_issuable_of_decode hd hop

/-! ### Which agent's step an operation is -/

/-- R91: the operations by the agent whose step they are. -/
theorem agent_cases (i : Instr) :
    i.issuer = .foreground ∨ i.isPrimitive = true ∨ (∃ p, i.stepState = some p) ∨ i = .shiftComplete ∨
      i = .extStimulus := by
  cases i <;> simp [Instr.issuer, Instr.isPrimitive, Instr.stepState]

/-- A foreground operation is a foreground step. -/
theorem exec_of_foreground {i : Instr} (h : i.issuer = .foreground) (s : State) :
    ∃ r, exec i s = foregroundStep i s r := by
  cases i <;> cases h <;> exact ⟨_, rfl⟩

/-- A primitive taken alone is a primitive step. -/
theorem exec_of_isPrimitive {i : Instr} (h : i.isPrimitive = true) (s : State) :
    ∃ r, exec i s = primitiveStep i s r := by
  cases i <;> cases h <;> exact ⟨_, rfl⟩

/-! ### No further step -/

theorem halted_of_not_running {s : State} (h : ¬ s.Running) : ∃ f, s.halted = some f :=
  Option.ne_none_iff_exists'.mp fun hn => h (halted_eq_none.mp hn)

/-- R44, R54: in a halted state every operation stops with the reason of the halt. -/
theorem exec_of_halted {s : State} {f : Fault} (h : s.halted = some f) (i : Instr) : exec i s = .fault f := by
  obtain hi | hi | ⟨p, hi⟩ | rfl | rfl := agent_cases i
  · obtain ⟨r, hr⟩ := exec_of_foreground hi s
    simp [hr, foregroundStep, State.foregroundStop, h]
  · obtain ⟨r, hr⟩ := exec_of_isPrimitive hi s
    simp [hr, primitiveStep, h]
  · simp [exec_of_stepState hi, engineStep, State.engineStop, h]
  · simp [exec, execShiftComplete, h]
  · simp [exec, execExtStimulus, h]

theorem step_of_halted {s : State} {f : Fault} (h : s.halted = some f) : step s = .fault f := by
  simp [step, fetch, h]

/-- Settles O8: such a state is not running, so it is halted. -/
theorem noStepAfterAFaultOrARefusal : Obligations.NoStepAfterAFaultOrARefusal := by
  intro s hs
  obtain ⟨f, hf⟩ := halted_of_not_running (s := s) fun hr => hs.elim (· hr.1) (· hr.2)
  exact ⟨⟨f, step_of_halted hf⟩, fun i => ⟨f, exec_of_halted hf i⟩⟩

end Sys2Proof.Machine
end

section
/-! PROOF. Settles O31, O42 and O45 to O48: what the engine leaves alone, and who writes `ASLEEP`, `BUSY`, `ERR`,
`EVENT` and `SIG_PEND`. -/

namespace Sys2Proof.Machine

/-! ### What an act leaves alone -/

/-- R28, R48, R173: the registers that no act of the engine writes. -/
structure ActKeeps (s t : State) : Prop where
  busy : t.busy = s.busy
  live : t.live = s.live
  rv : t.rv = s.rv
  sr : t.sr = s.sr
  asleep : t.asleep = s.asleep
  fgPos : t.fgPos = s.fgPos
  draws : t.draws = s.draws
  drawCount : t.drawCount = s.drawCount

theorem ActEnd.keeps {i : Instr} {s t : State} (h : ActEnd i s t) : ActKeeps s t := by
  cases h with
  | started | ackPrep | nacked | suspended | restarted | stopping | sent | receiving | stored | stopped =>
    rename_i ht
    subst ht
    exact ⟨rfl, rfl, rfl, rfl, rfl, rfl, rfl, rfl⟩

/-- R133, R137: an act writes no descriptor but the live one. -/
theorem ActEnd.desc_of_not_live {i : Instr} {s t : State} {k : DescRef} (h : ActEnd i s t) (hk : s.live ≠ some k) :
    t.desc k = s.desc k := by
  have moved {d : DescRef} (r c : Half) (hl : s.live = some d) : (s.advance d r c).desc k = s.desc k :=
    setDesc_desc_ne s d _ k fun hkd => hk (hkd ▸ hl)
  cases h with
  | sent d r c hi hl hr h0 hc hadm hs ht => subst ht; exact moved r c hl
  | stored d r c b n hi hl hr h0 hsr hc hadm hs ht => subst ht; exact moved r c hl
  | started | ackPrep | nacked | suspended | restarted | stopping | receiving | stopped =>
    rename_i ht
    subst ht
    rfl

theorem Desc.Follows.cont {x y : Desc} (h : x.Follows y) : y.cont = x.cont := by cases h <;> rfl

/-- R146: `ADDR`, `KIND` and `CONT` of every descriptor are left alone, the live one's among them. -/
theorem ActEnd.fields {i : Instr} {s t : State} (h : ActEnd i s t) (k : DescRef) :
    (t.desc k).addr = (s.desc k).addr ∧ (t.desc k).kind = (s.desc k).kind ∧ (t.desc k).cont = (s.desc k).cont := by
  by_cases hk : s.live = some k
  · have hf := h.follows hk
    exact ⟨hf.addr, hf.kind, hf.cont⟩
  · rw [h.desc_of_not_live hk]
    exact ⟨rfl, rfl, rfl⟩

/-- R146: an act raises `EVENT` only as it yields. -/
theorem ActEnd.event {i : Instr} {s t : State} (h : ActEnd i s t) :
    t.event = s.event ∨ (t.event = true ∧ t.sigEn = false) := by
  cases h with
  | suspended | restarted | stopped => rename_i ht; subst ht; exact .inr ⟨rfl, rfl⟩
  | started | ackPrep | nacked | stopping | sent | receiving | stored => rename_i ht; subst ht; exact .inl rfl

/-- Settles O31: a faulting engine step writes `FAULTS` only, and a normal one is the end of an act. -/
theorem engineLeavesOwnershipAndDescriptors : Obligations.EngineLeavesOwnershipAndDescriptors := by
  intro s t i hi h
  obtain ⟨p, hp⟩ := Option.ne_none_iff_exists'.mp hi
  obtain ⟨-, ⟨f, rfl⟩ | he⟩ := engine_next hp h
  · exact ⟨rfl, rfl, rfl, rfl, rfl, rfl, rfl, rfl, rfl, rfl, fun _ => ⟨rfl, rfl, rfl⟩, fun _ _ => rfl, .inl rfl⟩
  · have hk := he.keeps
    have hc := he.carries
    exact ⟨hk.busy, hk.live, hk.rv, hc.refused, hk.sr, hc.cfg, hk.fgPos, hc.agenda, hk.draws, hk.drawCount, he.fields,
      fun _ => he.desc_of_not_live, he.event⟩

/-! ### Sleep -/

/-- R43: a sleeping foreground has no step. -/
theorem exec_of_asleep {s : State} {i : Instr} (hr : s.Running) (ha : s.asleep = true) (hi : i.issuer = .foreground) :
    exec i s = .fault .foregroundAsleep := by
  obtain ⟨r, hx⟩ := exec_of_foreground hi s
  simp [hx, foregroundStep, State.foregroundStop, halted_of_running hr, ha]

/-- R178, R214: only the engine and a stimulus clear `ASLEEP`. -/
theorem StepEnd.asleep_mono {i : Instr} {s t : State} (h : StepEnd i s t) (hi : i.stepState = none)
    (hx : i ≠ .extStimulus) (ha : s.asleep = true) : t.asleep = true := by
  cases h with
  | engine p hp => cases hi.symm.trans hp
  | woken he => exact absurd he hx
  | slept he ht => subst ht; rfl
  | completed op he hs ht => subst ht; rw [completeShift_asleep, ha]
  | armed | startIssued | stopIssued | same | value | startedLive | resumed | forced | descWritten | memWritten
  | busyWritten | eventWritten | released | invoked =>
    rename_i ht
    subst ht
    exact ha

/-- R126, R179: a waking operation that leaves no record leaves the foreground awake. -/
theorem awake_of_exec {i : Instr} {s t : State} (h : exec i s = .next t) (hf : t.faults = [])
    (hi : i.stepState ≠ none ∨ i = .extStimulus) : t.asleep = false := by
  obtain hi | rfl := hi
  · obtain ⟨p, hp⟩ := Option.ne_none_iff_exists'.mp hi
    obtain ⟨-, ⟨f, rfl⟩ | he⟩ := engine_next hp h
    · cases hf
    · exact he.keeps.asleep
  · obtain ⟨-, -, rfl⟩ := execExtStimulus_next h
    rfl

/-- Settles O42: sleep lasts through every operation but the two kinds that wake. -/
theorem sleepingForegroundIsWokenByTheEngineOrAStimulus :
    Obligations.SleepingForegroundIsWokenByTheEngineOrAStimulus := by
  intro s i ha
  refine ⟨fun hr hi => exec_of_asleep hr ha hi, fun t h hawake => ?_, fun t => awake_of_exec⟩
  apply Classical.byContradiction
  intro hn
  obtain ⟨hi, hx⟩ : i.stepState = none ∧ i ≠ .extStimulus := by simpa using hn
  have hsleeps : t.asleep = true := by
    obtain ⟨-, ⟨f, rfl⟩ | he⟩ := exec_next h
    · exact ha
    · exact he.asleep_mono hi hx ha
  cases hsleeps.symm.trans hawake

/-! ### The writers of `BUSY` -/

/-- Settles O45: two operations write `BUSY`, and the scheduler iteration clears it. -/
theorem onlyTheForegroundWritesBusy : Obligations.OnlyTheForegroundWritesBusy := by
  intro s t i h hne
  obtain ⟨-, ⟨f, rfl⟩ | he⟩ := exec_next h
  · exact absurd rfl hne
  cases he with
  | engine p hi hr he => exact absurd he.keeps.busy hne
  | busyWritten b hi ht => subst ht; exact hi.imp id .inl
  | released d hi hl he ht => subst ht; exact .inr (.inr ⟨hi, rfl⟩)
  | completed op hi hs ht => subst ht; exact absurd (completeShift_busy s op) hne
  | armed | startIssued | stopIssued | same | value | startedLive | resumed | forced | descWritten | memWritten
  | eventWritten | invoked | slept | woken =>
    rename_i ht
    subst ht
    exact absurd rfl hne

/-! ### The writers of `ERR` -/

/-- R130: an act writes `ERR` only as an acknowledgement check fails. -/
theorem ActEnd.err_of_ne {i : Instr} {s t : State} (h : ActEnd i s t) (hne : t.err ≠ s.err) :
    (i = .stepAddrAckCheck ∧ t.err = 1 ∧ t.nackf = true) ∨ (i = .stepDataAckCheck ∧ t.err = 2 ∧ t.nackf = true) := by
  cases h with
  | nacked code hi hs ht =>
    subst ht
    exact hi.imp (fun h => ⟨h.1, h.2, rfl⟩) (fun h => ⟨h.1, h.2, rfl⟩)
  | started | ackPrep | suspended | restarted | stopping | sent | receiving | stored | stopped =>
    rename_i ht
    subst ht
    exact absurd rfl hne

/-- Settles O46: of all operations only the engine's acts write `ERR`. -/
theorem onlyNacksWriteTheErrorCode : Obligations.OnlyNacksWriteTheErrorCode := by
  intro s t i h hne
  obtain ⟨-, ⟨f, rfl⟩ | he⟩ := exec_next h
  · exact absurd rfl hne
  cases he with
  | engine p hi hr he => exact he.err_of_ne hne
  | completed op hi hs ht => subst ht; exact absurd (completeShift_err s op) hne
  | armed | startIssued | stopIssued | same | value | startedLive | resumed | forced | descWritten | memWritten
  | busyWritten | eventWritten | released | invoked | slept | woken =>
    rename_i ht
    subst ht
    exact absurd rfl hne

/-! ### The writers of `EVENT` -/

/-- R30: what an operation makes of `EVENT`. -/
theorem event_of_exec {i : Instr} {s t : State} (h : exec i s = .next t) :
    t.event = s.event ∨ (t.event = true ∧ (i = .raiseEvent ∨ (i.stepState ≠ none ∧ t.sigEn = false))) ∨
      (t.event = false ∧ (i = .clearEvent ∨ i = .schedIter)) := by
  obtain ⟨-, ⟨f, rfl⟩ | he⟩ := exec_next h
  · exact .inl rfl
  cases he with
  | engine p hi hr he => exact he.event.imp_right fun h => .inl ⟨h.1, .inr ⟨by simp [hi], h.2⟩⟩
  | eventWritten b hi ht =>
    subst ht
    exact .inr (hi.imp (fun h => ⟨h.2, .inl h.1⟩) (fun h => ⟨h.2, .inl h.1⟩))
  | released d hi hl he ht => subst ht; exact .inr (.inr ⟨rfl, .inr hi⟩)
  | invoked c d hi hl ht => subst ht; exact .inr (.inr ⟨rfl, .inr hi⟩)
  | completed op hi hs ht => subst ht; exact .inl (completeShift_event s op)
  | armed | startIssued | stopIssued | same | value | startedLive | resumed | forced | descWritten | memWritten
  | busyWritten | slept | woken =>
    rename_i ht
    subst ht
    exact .inl rfl

/-- Settles O47: of the three things an operation can make of `EVENT`, each change leaves one. -/
theorem eventIsRaisedOnlyAtYieldsOrByProgram : Obligations.EventIsRaisedOnlyAtYieldsOrByProgram := by
  intro s t i h
  have he := event_of_exec h
  constructor
  · intro h0 h1
    simpa [h0, h1] using he
  · intro h1 h0
    simpa [h0, h1] using he

/-! ### The writers of `SIG_PEND` -/

/-- R101: an act clears `SIG_PEND` only as it arms a shift, and never sets it. -/
theorem ActEnd.sigPend {i : Instr} {s t : State} (h : ActEnd i s t) :
    t.sigPend = s.sigPend ∨ (t.sigPend = false ∧ s.shift = none ∧ t.shift ≠ none) := by
  cases h with
  | suspended | stopped => rename_i ht; subst ht; exact .inl rfl
  | started | ackPrep | nacked | restarted | stopping | sent | receiving | stored =>
    rename_i hs ht
    subst ht
    exact .inr ⟨rfl, hs, nofun⟩

/-- R37: what an operation makes of `SIG_PEND`. -/
theorem sigPend_of_exec {i : Instr} {s t : State} (h : exec i s = .next t) :
    t.sigPend = s.sigPend ∨ (t.sigPend = false ∧ s.shift = none ∧ t.shift ≠ none) ∨
      (t.sigPend = true ∧ i = .shiftComplete ∧ t.shift = none) := by
  obtain ⟨-, ⟨f, rfl⟩ | he⟩ := exec_next h
  · exact .inl rfl
  cases he with
  | engine p hi hr he => exact he.sigPend.imp_right .inl
  | armed op hi hs ht => subst ht; exact .inr (.inl ⟨rfl, hs, nofun⟩)
  | completed op hi hs ht =>
    subst ht
    exact .inr (.inr ⟨completeShift_sigPend s op, hi, completeShift_shift s op⟩)
  | startIssued | stopIssued | same | value | startedLive | resumed | forced | descWritten | memWritten
  | busyWritten | eventWritten | released | invoked | slept | woken =>
    rename_i ht
    subst ht
    exact .inl rfl

/-- Settles O48: of the three things an operation can make of `SIG_PEND`, each change leaves one. -/
theorem pendingIsClearedByArmingAndSetByCompletion : Obligations.PendingIsClearedByArmingAndSetByCompletion := by
  intro s t i h
  have hp := sigPend_of_exec h
  constructor
  · intro h1 h0
    simpa [h0, h1] using hp
  · intro h0 h1
    simpa [h0, h1] using hp

end Sys2Proof.Machine
end

section
/-! PROOF. Settles O49 to O51: the foreground's registers, the stores to `HMEM`, and the handoff of the descriptor. -/

namespace Sys2Proof.Machine

/-! ### What the foreground leaves alone -/

/-- R48: the registers of the engine and of the bus that no foreground operation writes. -/
structure ForegroundKeeps (s t : State) : Prop where
  pstate : t.pstate = s.pstate
  nackf : t.nackf = s.nackf
  err : t.err = s.err
  sigPend : t.sigPend = s.sigPend
  shift : t.shift = s.shift
  sr : t.sr = s.sr
  ghostDir : t.ghostDir = s.ghostDir
  trace : t.trace = s.trace
  buscond : t.buscond = s.buscond
  draws : t.draws = s.draws
  drawCount : t.drawCount = s.drawCount

/-- R91: which normal results are the foreground's. -/
theorem StepEnd.foregroundKeeps {i : Instr} {s t : State} (h : StepEnd i s t) (hi : i.issuer = .foreground) :
    ForegroundKeeps s t := by
  obtain ⟨hprim, hstep⟩ := not_engine_of_issuer (i := i) (by simp [hi])
  cases h with
  | engine p hp => cases hstep.symm.trans hp
  | armed op hp => cases hprim.symm.trans hp
  | startIssued hp => subst hp; cases hi
  | stopIssued hp => subst hp; cases hi
  | completed op hp => subst hp; cases hi
  | same | value | startedLive | resumed | forced | descWritten | memWritten | busyWritten | eventWritten | released
  | invoked | slept | woken =>
    rename_i ht
    subst ht
    exact ⟨rfl, rfl, rfl, rfl, rfl, rfl, rfl, rfl, rfl, rfl, rfl⟩

/-- R35, R151: only `start` records a live descriptor. -/
theorem StepEnd.live_of_ne {i : Instr} {s t : State} (h : StepEnd i s t) (hne : t.live ≠ s.live) :
    ∃ d, i = .start (some d) ∧ t.live = some d := by
  cases h with
  | engine p hi hr he => exact absurd he.keeps.live hne
  | startedLive d hi he ht => subst ht; exact ⟨d, hi, rfl⟩
  | completed op hi hs ht => subst ht; exact absurd (completeShift_live s op) hne
  | armed | startIssued | stopIssued | same | value | resumed | forced | descWritten | memWritten | busyWritten
  | eventWritten | released | invoked | slept | woken =>
    rename_i ht
    subst ht
    exact absurd rfl hne

/-- R36, R50: outside the engine only three operations write `SIG_EN`, and they set it. -/
theorem StepEnd.sigEn_of_ne {i : Instr} {s t : State} (h : StepEnd i s t) (hi : i.stepState = none)
    (hne : t.sigEn ≠ s.sigEn) : t.sigEn = true ∧ ((∃ d, i = .start (some d)) ∨ i = .resume ∨ i = .forceStop) := by
  cases h with
  | engine p hp => cases hi.symm.trans hp
  | startedLive d hi he ht => subst ht; exact ⟨rfl, .inl ⟨d, hi⟩⟩
  | resumed hi hl ht => subst ht; exact ⟨rfl, .inr (.inl hi)⟩
  | forced d hi hl ht => subst ht; exact ⟨rfl, .inr (.inr hi)⟩
  | completed op hi hs ht => subst ht; exact absurd (completeShift_sigEn s op) hne
  | armed | startIssued | stopIssued | same | value | descWritten | memWritten | busyWritten | eventWritten | released
  | invoked | slept | woken =>
    rename_i ht
    subst ht
    exact absurd rfl hne

/-- Settles O49: a fault writes `FAULTS` only, and no normal result of the foreground's is the engine's or the bus's. -/
theorem foregroundLeavesEngineAndBus : Obligations.ForegroundLeavesEngineAndBus := by
  intro s t i hi h
  obtain ⟨-, ⟨f, rfl⟩ | he⟩ := exec_next h
  · exact ⟨rfl, rfl, rfl, rfl, rfl, rfl, rfl, rfl, rfl, rfl, rfl, rfl, rfl, rfl, absurd rfl, absurd rfl⟩
  · have hk := he.foregroundKeeps hi
    have hc := he.carries
    have hstep := (not_engine_of_issuer (i := i) (by simp [hi])).2
    exact ⟨hk.pstate, hk.nackf, hk.err, hk.sigPend, hk.shift, hk.sr, hk.ghostDir, hk.trace, hk.buscond, hc.refused,
      hc.cfg, hc.agenda, hk.draws, hk.drawCount, he.live_of_ne, he.sigEn_of_ne hstep⟩

/-! ### The stores to `HMEM` -/

/-- R137: an act stores to `HMEM` only in RECEIVE_STORE. -/
theorem ActEnd.hmem {i : Instr} {s t : State} (h : ActEnd i s t) :
    t.hmem = s.hmem ∨ ∃ d a v, i = .stepReceiveStore ∧ s.live = some d ∧ (s.desc d).cur = some a ∧
      admits s.cfg a = true ∧ t.hmem = Memory.write s.hmem a.toNat v := by
  cases h with
  | stored d r c b n hi hl hr h0 hsr hc hadm hs ht => subst ht; exact .inr ⟨d, c, b, hi, hl, hc, hadm, rfl⟩
  | started | ackPrep | nacked | suspended | restarted | stopping | sent | receiving | stopped =>
    rename_i ht
    subst ht
    exact .inl rfl

/-- R61: what an operation makes of `HMEM`: one store at most, to an admitted address. -/
theorem hmem_of_exec {i : Instr} {s t : State} (h : exec i s = .next t) :
    t.hmem = s.hmem ∨ ∃ a v, t.hmem = Memory.write s.hmem a.toNat v ∧ admits s.cfg a = true ∧
      ((∃ v, i = .memWrite a v) ∨ (i = .stepReceiveStore ∧ ∃ d, s.live = some d ∧ (s.desc d).cur = some a)) := by
  obtain ⟨-, ⟨f, rfl⟩ | he⟩ := exec_next h
  · exact .inl rfl
  cases he with
  | engine p hi hr he =>
    exact he.hmem.imp_right fun ⟨d, a, v, hi, hl, hc, hadm, hm⟩ => ⟨a, v, hm, hadm, .inr ⟨hi, d, hl, hc⟩⟩
  | memWritten a v hi hadm ht => subst ht; exact .inr ⟨a, v, rfl, hadm, .inl ⟨v, hi⟩⟩
  | completed op hi hs ht => subst ht; exact .inl (completeShift_hmem s op)
  | armed | startIssued | stopIssued | same | value | startedLive | resumed | forced | descWritten | busyWritten
  | eventWritten | released | invoked | slept | woken =>
    rename_i ht
    subst ht
    exact .inl rfl

/-- Settles O50: a store changes no byte but the one at its address. -/
theorem onlyTwoOperationsStoreToMemory : Obligations.OnlyTwoOperationsStoreToMemory := by
  intro s t i x h hne
  obtain hm | ⟨a, v, hm, hadm, hi⟩ := hmem_of_exec h
  · exact absurd (by rw [hm]) hne
  · refine ⟨a, ?_, hadm, hi⟩
    apply Classical.byContradiction
    intro hx
    exact hne (by rw [hm, Memory.read_write_ne s.hmem v hx])

/-! ### The handoff of the descriptor -/

/-- R53: what the foreground owns while `SIG_EN` is 0, and the ownership itself. -/
structure KeepsOwned (s t : State) : Prop where
  descs : t.descs = s.descs
  busy : t.busy = s.busy
  event : t.event = s.event
  err : t.err = s.err
  live : t.live = s.live
  sigEn : t.sigEn = s.sigEn
  hmem : t.hmem = s.hmem

/-- R47, R53: a primitive, a completion and a stimulus write nothing the foreground owns. -/
theorem StepEnd.keepsOwned {i : Instr} {s t : State} (h : StepEnd i s t) (hfg : i.issuer ≠ .foreground)
    (hi : i.stepState = none) : KeepsOwned s t := by
  cases h with
  | engine p hp => cases hi.symm.trans hp
  | value v hp => exact absurd hp hfg
  | completed op hp hs ht => subst ht; constructor <;> simp
  | armed | startIssued | stopIssued | same | woken =>
    rename_i ht
    subst ht
    exact ⟨rfl, rfl, rfl, rfl, rfl, rfl, rfl⟩
  | busyWritten b hp => obtain ⟨rfl, -⟩ | ⟨rfl, -⟩ := hp <;> exact absurd rfl hfg
  | eventWritten b hp => obtain ⟨rfl, -⟩ | ⟨rfl, -⟩ := hp <;> exact absurd rfl hfg
  | startedLive | resumed | forced | descWritten | memWritten | released | invoked | slept =>
    subst i
    exact absurd rfl hfg

/-- R41, R126: a turn that is not the foreground's runs an operation of another agent, and where the engine is not
signalled no engine step. -/
theorem Runs.not_foreground {s : State} {x : Turn} {i : Instr} (h : Runs s x i) (hx : ∀ w, x ≠ .foreground w)
    (he : s.sigEn = false) : i.issuer ≠ .foreground ∧ i.stepState = none := by
  cases h with
  | foreground w => exact absurd rfl (hx w)
  | engine i hs => simp [State.signalled, he] at hs
  | primitive w i hd hi => cases i <;> cases hi <;> exact ⟨nofun, rfl⟩
  | shifter => exact ⟨nofun, rfl⟩
  | environment => exact ⟨nofun, rfl⟩

theorem TurnEnd.keepsOwned {s t : State} {x : Turn} (h : TurnEnd s t x) (hx : ∀ w, x ≠ .foreground w)
    (he : s.sigEn = false) : KeepsOwned s t := by
  cases h with
  | ran i hr h =>
    obtain ⟨hfg, hstep⟩ := hr.not_foreground hx he
    obtain ⟨-, ⟨f, rfl⟩ | hend⟩ := exec_next h
    · exact ⟨rfl, rfl, rfl, rfl, rfl, rfl, rfl⟩
    · exact hend.keepsOwned hfg hstep
  | refused | reservedState | returned => rename_i ht; subst ht; exact ⟨rfl, rfl, rfl, rfl, rfl, rfl, rfl⟩

/-- R220: under the engine's ownership the live descriptor is the foreground's to write by `force_stop` only. -/
theorem StepEnd.desc_of_owned {i : Instr} {s t : State} {d : DescRef} (h : StepEnd i s t)
    (hi : i.issuer = .foreground) (hne : i ≠ .forceStop) (he : s.sigEn = true) (hl : s.live = some d) :
    t.desc d = s.desc d := by
  cases h with
  | engine p hp => cases hi.symm.trans (issuer_of_stepState hp)
  | forced k hk => exact absurd hk hne
  | descWritten k f v hk ho ht =>
    subst ht
    exact setDesc_desc_ne s k _ d fun hdk => ho ⟨hdk ▸ hl, he⟩
  | released k hk hlk hen => cases he.symm.trans hen
  | completed op hp hs ht => subst ht; exact completeShift_desc s op d
  | armed | startIssued | stopIssued | same | value | startedLive | resumed | memWritten | busyWritten | eventWritten
  | invoked | slept | woken =>
    rename_i ht
    subst ht
    rfl

/-- Settles O51, first of the foreground's ownership, then of the engine's. -/
theorem descriptorsChangeOnlyByTheirOwner : Obligations.DescriptorsChangeOnlyByTheirOwner := by
  constructor
  · intro s t hs he hx
    obtain ⟨-, x, rest, ha, hend⟩ := step_next hs
    have hk := hend.keepsOwned (fun w hw => hx w (by simp [ha, hw])) he
    exact ⟨hk.descs, hk.busy, hk.event, hk.err, hk.live, hk.sigEn.trans he, hk.hmem⟩
  · intro s t i d h hi hne he hl
    obtain ⟨-, ⟨f, rfl⟩ | hend⟩ := exec_next h
    · rfl
    · exact hend.desc_of_owned hi hne he hl

end Sys2Proof.Machine
end

section
/-! PROOF. Settles O56: which faults each operation can raise, under the protocol invariant. -/

namespace Sys2Proof.Machine

/-! ### Results -/

/-- What a result can be: a value of which `Q` holds, or a fault of which `P` holds. -/
def Ends {α : Type} (P : ModelFault → Prop) (Q : α → Prop) (r : Except ModelFault α) : Prop :=
  match r with
  | .ok a => Q a
  | .error f => P f

section

variable {α β : Type} {P : ModelFault → Prop} {Q : α → Prop} {R : β → Prop} {x : Except ModelFault α}

theorem Ends.bind {f : α → Except ModelFault β} (hx : Ends P Q x) (hf : ∀ a, Q a → Ends P R (f a)) :
    Ends P R (x >>= f) := by
  cases x with
  | error e => exact hx
  | ok a => exact hf a hx

theorem Ends.map {f : α → β} (hx : Ends P Q x) (hf : ∀ a, Q a → R (f a)) : Ends P R (x.map f) := by
  cases x with
  | error e => exact hx
  | ok a => exact hf a hx

end

/-- R197 to R204: the faults that an operation can raise with `live` as the live reference, where the protocol invariant
holds. -/
inductive Raisable (i : Instr) (live : Option DescRef) : ModelFault → Prop
  | ownership (op : OwnedOp) : Raisable i live (.ownershipViolation op)
  | field (d : DescRef) (f : Field) : Raisable i live (.unwrittenRead (.descField d f))
  | buffer (a : Half) : Raisable i live (.bufferNotAdmitted a)
  | noLive (h : live = none) : Raisable i live .noLiveDescriptor
  | illFormed (what : IllFormed) : Raisable i live (.illFormedDescriptor what)
  | directionChanged : Raisable i live .directionChanged
  | underflow (h : i = .stepReceiveStore) : Raisable i live .remainingUnderflow
  | acquire : Raisable i live .acquireWhileBusy

/-- From `s`, an operation `i` with this result raises a fault of those, or ends with the same fault records. -/
def Tame (i : Instr) (s : State) (r : Except ModelFault State) : Prop :=
  Ends (Raisable i s.live) (fun t => t.faults = s.faults) r

/-! ### Reads and accesses -/

section

variable {i : Instr} {s : State} {live : Option DescRef}

theorem liveRef_ends : Ends (Raisable i s.live) (fun d => s.live = some d) s.liveRef := by
  unfold State.liveRef
  split
  case h_1 hl => exact hl
  case h_2 hl => exact .noLive hl

theorem readReg_ends {α : Type} {P : ModelFault → Prop} {reg : RegName} {v : Option α}
    (h : v = none → P (.unwrittenRead reg)) : Ends P (fun x => v = some x) (readReg reg v) := by
  cases v with
  | none => exact h rfl
  | some x => rfl

theorem kindDir_ends (k : Kind) : Ends (Raisable i live) (fun _ => True) (kindDir k) := by
  unfold kindDir
  split
  · trivial
  · exact .illFormed .kind

theorem checkDir_ends (hg : s.ghostDir ≠ none) (dir : Dir) :
    Ends (Raisable i live) (fun _ => True) (s.checkDir dir) := by
  refine (readReg_ends fun hn => absurd hn hg).bind fun g _ => ?_
  split
  · trivial
  · exact .directionChanged

theorem readAckBit_ends {P : ModelFault → Prop} (hsr : s.sr ≠ none) : Ends P (fun _ => True) s.readAckBit :=
  (readReg_ends fun hn => absurd hn hsr).bind fun _ _ => trivial

theorem memRead_ends (a : Half) : Ends (Raisable i live) (fun _ => True) (s.memRead a) := by
  unfold State.memRead
  split
  · trivial
  · exact .buffer a

theorem memWrite_ends (a : Half) (v : Byte) :
    Ends (Raisable i live) (fun t => t = s.setHmem (Memory.write s.hmem a.toNat v)) (s.memWrite a v) := by
  unfold State.memWrite
  split
  · rfl
  · exact .buffer a

/-- R203: no shift overlaps one that is not in flight. -/
theorem arm_ends {P : ModelFault → Prop} (hs : s.shift = none) (op : ShiftOp) :
    Ends P (fun t => t.faults = s.faults) (s.arm op) := by
  rw [arm_none hs]
  rfl

/-! ### The acts of the engine, each where the protocol invariant lets it run -/

theorem actStart_tame (hb : s.buscond = .idle ∨ s.buscond = .restartReady) (hs : s.shift = none) :
    Tame i s (actStart s) := by
  refine liveRef_ends.bind fun d _ => (readReg_ends fun _ => .field d .kind).bind fun k _ =>
    (kindDir_ends k).bind fun dir _ => (readReg_ends fun _ => .field d .addr).bind fun a _ => ?_
  split
  case isFalse => exact .illFormed .direction
  case isTrue =>
    have hissue : Ends (Raisable i s.live) (fun t => t.faults = s.faults ∧ t.shift = none)
        ((s.setNackf false).setGhostDir dir).issueStart := by
      unfold State.issueStart
      obtain hb | hb := hb <;> simp only [setGhostDir_buscond, setNackf_buscond, hb] <;> exact ⟨rfl, hs⟩
    exact hissue.bind fun s1 ⟨hf, hs1⟩ => (arm_ends hs1 _).bind fun s2 h2 => h2.trans hf

theorem actAddrAckPrep_tame (hs : s.shift = none) : Tame i s (actAddrAckPrep s) :=
  (arm_ends hs _).bind fun _ h => h

theorem actDataAckPrep_tame (hs : s.shift = none) : Tame i s (actDataAckPrep s) :=
  (arm_ends hs _).bind fun _ h => h

theorem actReceiveByte_tame (hs : s.shift = none) : Tame i s (actReceiveByte s) :=
  (arm_ends hs _).bind fun _ h => h

/-- R133: SEND_BYTE raises `RemainingUnderflow` only with no byte left. -/
theorem actSendByte_tame (h0 : ∀ d, s.live = some d → (s.desc d).rem ≠ some 0) (hs : s.shift = none) :
    Tame i s (actSendByte s) := by
  refine liveRef_ends.bind fun d hd => (readReg_ends fun _ => .field d .rem).bind fun r hr => ?_
  split
  case isTrue hr0 => exact absurd (hr0 ▸ hr) (h0 d hd)
  case isFalse =>
    exact (readReg_ends fun _ => .field d .cur).bind fun c _ => (memRead_ends c).bind fun b _ =>
      (arm_ends hs _).bind fun _ h => h

theorem actPrepareStop_tame (hs : s.shift = none) : Tame i s (actPrepareStop s) := by
  refine liveRef_ends.bind fun d _ => (readReg_ends fun _ => .field d .kind).bind fun k _ =>
    (kindDir_ends k).bind fun _ _ => ?_
  split
  · exact (arm_ends hs _).bind fun _ h => h
  · exact (arm_ends hs _).bind fun _ h => h

/-- R131: the decision goes on to SEND_BYTE only with a byte left. -/
theorem afterAck_tame (hg : s.ghostDir ≠ none) (hs : s.shift = none) : Tame i s (afterAck s) := by
  refine liveRef_ends.bind fun d hd => (readReg_ends fun _ => .field d .kind).bind fun k _ =>
    (kindDir_ends k).bind fun dir _ => (checkDir_ends hg dir).bind fun _ _ =>
      (readReg_ends fun _ => .field d .rem).bind fun r hr => ?_
  split
  case isTrue =>
    split
    · rfl
    · exact actPrepareStop_tame (s := s.setPstate .prepareStop) hs
  case isFalse h0 =>
    cases dir with
    | w =>
      refine actSendByte_tame (s := s.setPstate .sendByte) (fun e he hz => h0 ?_) hs
      cases hd.symm.trans he
      exact Option.some.inj (hr.symm.trans hz)
    | r => exact actReceiveByte_tame (s := s.setPstate .receiveByte) hs

/-- R129, R135: an acknowledgement check reads `SR` and takes one of its two branches. -/
theorem ackCheck_tame (code : BitVec 4) (hsr : s.sr ≠ none) (hg : s.ghostDir ≠ none) (hs : s.shift = none) :
    Tame i s (s.readAckBit >>= fun n => if n then nackFail code s else afterAck s) := by
  refine (readAckBit_ends hsr).bind fun n _ => ?_
  split
  · exact actPrepareStop_tame (s := ((s.setErr code).setNackf true).setPstate .prepareStop) hs
  · exact afterAck_tame hg hs

theorem actReceiveStore_tame (hsr : s.sr ≠ none) (hg : s.ghostDir ≠ none) (hs : s.shift = none) :
    Tame .stepReceiveStore s (actReceiveStore s) := by
  refine liveRef_ends.bind fun d _ => (readReg_ends fun _ => .field d .rem).bind fun r _ => ?_
  split
  case isTrue => exact .underflow rfl
  case isFalse =>
    refine (readReg_ends fun _ => .field d .kind).bind fun k _ => (kindDir_ends k).bind fun dir _ =>
      (checkDir_ends hg dir).bind fun _ _ => (readReg_ends fun hn => absurd hn hsr).bind fun b _ =>
        (readReg_ends fun _ => .field d .cur).bind fun c _ => (memWrite_ends c b).bind fun s1 h1 => ?_
    subst h1
    have harm : ((s.setHmem (Memory.write s.hmem c.toNat b)).advance d r c).shift = none := hs
    exact (arm_ends harm _).bind fun _ h => h

theorem actStop_tame (hb : s.buscond = .stopReady) : Tame i s (actStop s) := by
  simp only [actStop, State.issueStop, hb, ok_bind]
  rfl

/-- R111, R142: under the protocol invariant the act of `PSTATE` raises none of the faults the spec calls unreachable. -/
theorem act_tame (h : s.BusInv) (hpend : s.sigPend = true) (hi : i.stepState = some s.pstate) :
    Tame i s (actOf i s) := by
  have hs := h.shift_none hpend
  have hph := h.phase
  have hg := h.ghost
  have hi := stepInstr_of_stepState hi
  cases hp : s.pstate <;> simp only [State.busPhase, hp, hs, reduceCtorEq, exists_const, or_false, false_and,
    true_and, and_true] at hph <;> rw [hp] at hi hg <;> cases hi
  case start => exact actStart_tame hph hs
  case addrAckPrep => exact actAddrAckPrep_tame hs
  case dataAckPrep => exact actDataAckPrep_tame hs
  case addrAckCheck => exact ackCheck_tame errNackAddr hph.2 (hg nofun) hs
  case dataAckCheck => exact ackCheck_tame errNackData hph.2 (hg nofun) hs
  case receiveStore => exact actReceiveStore_tame hph.2 (hg nofun) hs
  case rxAckSent => exact afterAck_tame (hg nofun) hs
  case stop => exact actStop_tame hph

/-! ### The operations of the foreground -/

theorem schedDispatch_tame : Tame i s (schedDispatch s) := by
  refine liveRef_ends.bind fun d _ => (readReg_ends fun _ => .field d .cont).bind fun c _ => ?_
  cases c with
  | null =>
    dsimp only
    split
    · exact .ownership .schedIter
    · rfl
  | ref c => rfl

/-- R197 to R204: a foreground operation is a foreground step with such a result. -/
theorem exec_of_foreground_tame (hi : i.issuer = .foreground) (s : State) :
    ∃ r, exec i s = foregroundStep i s r ∧ Tame i s r := by
  cases i <;> cases hi <;> refine ⟨_, rfl, ?_⟩
  case start d =>
    cases d with
    | none => rfl
    | some d =>
      dsimp only
      split
      · exact .ownership .start
      · rfl
  case resume => exact liveRef_ends.map fun _ _ => rfl
  case forceStop => exact liveRef_ends.map fun _ _ => rfl
  case descRead d f => exact (readReg_ends fun _ => .field d f).map fun _ _ => rfl
  case descWrite d f v =>
    split
    · exact .ownership .descWrite
    · rfl
  case memRead a => exact (memRead_ends a).map fun _ _ => rfl
  case memWrite a v =>
    unfold State.memWrite
    split
    · rfl
    · exact .buffer a
  case acquire =>
    split
    · exact .acquire
    · rfl
  case schedIter =>
    split
    · exact schedDispatch_tame
    · rfl
  case lpmWait => split <;> rfl
  case getError | isBusy | release | raiseEvent | clearEvent | checkEvent => rfl

end

/-! ### The records a turn leaves -/

/-- The one record that a step of `s` leaves whose result is tame from `u`. -/
theorem Tame.record {i : Instr} {s t u : State} {r : Except ModelFault State} {ag : Agent} {x : FaultRecord}
    (h : Tame i u r) (hr : u.Running) (ht : r = .ok t ∨ ∃ f, r = .error f ∧
      t = { s with faults := [{ fault := f, agent := ag, op := encode i }] }) (hx : x ∈ t.faults) :
    ∃ f, x = { fault := f, agent := ag, op := encode i } ∧ Raisable i u.live f := by
  obtain rfl | ⟨f, rfl, rfl⟩ := ht
  · rw [show t.faults = u.faults from h, hr.1] at hx
    cases hx
  · exact ⟨f, List.mem_singleton.mp hx, h⟩

/-- The record of a turn of the four agents names its operation and a fault that this can raise; where the agent is the
engine, signalling was enabled. -/
theorem TurnEnd.record {s t : State} {x : Turn} {r : FaultRecord} (h : TurnEnd s t x) (hb : s.BusInv)
    (hx : ∀ w, x ≠ .primitive w) (hrun : s.Running) (hr : r ∈ t.faults) :
    ∃ i, r.op = encode i ∧ Raisable i s.live r.fault ∧ (r.agent = .engine → s.sigEn = true) := by
  have clean {u : State} (hu : u.faults = s.faults) (hr : r ∈ u.faults) : False := by
    rw [hu, hrun.1] at hr
    cases hr
  cases h with
  | ran i hrn h =>
    cases hrn with
    | foreground w i ha hd hi =>
      obtain ⟨q, hq, htame⟩ := exec_of_foreground_tame (of_decide_eq_true hi) s
      rw [hq] at h
      obtain ⟨f, rfl, hf⟩ := htame.record hrun (foregroundStep_next h).2 hr
      exact ⟨i, rfl, hf, nofun⟩
    | engine i hs hi =>
      have hstep := stepState_of_stepInstr hi
      rw [exec_of_stepState hstep] at h
      obtain ⟨⟨-, hen, hpend, -⟩, hact⟩ := engineStep_next h
      have hawake : (s.setAsleep false).BusInv := ⟨hb.pending, hb.phase, hb.ghost⟩
      obtain ⟨f, rfl, hf⟩ := (act_tame hawake hpend hstep).record hrun hact hr
      exact ⟨i, rfl, hf, fun _ => hen⟩
    | primitive w => exact absurd rfl (hx w)
    | shifter =>
      obtain ⟨-, op, -, rfl⟩ := execShiftComplete_next h
      exact (clean (completeShift_faults s op) hr).elim
    | environment =>
      obtain ⟨-, -, rfl⟩ := execExtStimulus_next h
      exact (clean rfl hr).elim
  | refused w hw ht => subst ht; exact (clean rfl hr).elim
  | reservedState k hw hp =>
    have hph := hb.phase
    simp only [State.busPhase, hp] at hph
  | returned hw ht => subst ht; exact (clean rfl hr).elim

/-- Settles O56: no unreachable fault is among those an agent's step can raise. -/
theorem unreachableFaultsAreNeverRaised : Obligations.UnreachableFaultsAreNeverRaised := by
  intro s t r hb ha hs hr
  obtain ⟨hrun, x, rest, hx, hend⟩ := step_next hs
  have hrest : ({ s with agenda := rest } : State).BusInv := ⟨hb.pending, hb.phase, hb.ghost⟩
  obtain ⟨i, hop, hf, hen⟩ := hend.record hrest (fun w hw => ha w (by simp [hx, hw])) hrun hr
  generalize r.fault = f at hf
  cases hf with
  | underflow hi => exact ⟨nofun, nofun, nofun, nofun, nofun, fun _ => hi ▸ hop, fun _ _ => nofun⟩
  | noLive hl =>
    exact ⟨nofun, nofun, nofun, nofun, nofun, nofun, fun hinv hag => absurd hl (hinv.signalling (hen hag))⟩
  | ownership | field | buffer | illFormed | directionChanged | acquire =>
    exact ⟨nofun, nofun, nofun, nofun, nofun, nofun, fun _ _ => nofun⟩

end Sys2Proof.Machine
end

section
/-! PROOF. Settles O1 to O4: the decoder and the encoder are inverse on the words of well-formed operations, and what
falls outside R89 to R91 is refused. -/

namespace Sys2Proof.Machine

/-! ### Each format accepts the words built in it (R89) -/

theorem formatN_wordOf (op : Byte) (i : Instr) : formatN (wordOf op 0#24) i = .ok i :=
  if_pos (lowZero_formatN op)

theorem formatB_wordOf (op b : Byte) (mk : Byte → Instr) : formatB (wordOf op (0#16 ++ b)) mk = .ok (mk b) := by
  rw [formatB, if_pos (mbz_formatB op b), bField_formatB]

theorem formatD_wordOf {cfg : Config} (op : Byte) {d : Option DescRef} (mk : Option DescRef → Instr)
    (h : ∀ x, d = some x → descExists cfg x = true) :
    formatD cfg (wordOf op (descBits d ++ 0#20)) mk = .ok (mk d) := by
  rw [formatD, if_pos (lowZero_formatD op _), dField_formatD]
  cases d with
  | none => rfl
  | some x =>
    rw [if_neg (descBits_ne_null x), descOf_descBits (h x rfl)]
    rfl

theorem fieldOf_selector (f : Field) : fieldOf f.selector = .ok f := by
  rw [fieldOf, Field.ofSelector_selector]

theorem formatDF_wordOf {cfg : Config} (op : Byte) {d : DescRef} (f : Field) (mk : DescRef → Field → Instr)
    (h : descExists cfg d = true) :
    formatDF cfg (wordOf op (descBits (some d) ++ f.selector ++ 0#16)) mk = .ok (mk d f) := by
  rw [formatDF, if_pos (lowZero_formatDF op _ _), dField_formatDFV, fField_formatDFV, descOf_descBits h,
    fieldOf_selector]
  rfl

theorem formatDFV_wordOf {cfg : Config} (op : Byte) {d : DescRef} {f : Field} {v : Half}
    (mk : DescRef → Field → Half → Instr) (h : descExists cfg d = true) (hv : Field.admitsValue cfg f v = true) :
    formatDFV cfg (wordOf op (descBits (some d) ++ f.selector ++ v)) mk = .ok (mk d f v) := by
  rw [formatDFV, dField_formatDFV, fField_formatDFV, lowField_formatDFV, descOf_descBits h, fieldOf_selector]
  exact if_pos ((valueFits_eq_admitsValue cfg f v).trans hv)

theorem formatMA_wordOf (op : Byte) (a : Half) (mk : Half → Instr) :
    formatMA (wordOf op (0#8 ++ a)) mk = .ok (mk a) := by
  rw [formatMA, if_pos (vByteField_formatMAV op 0#8 a), lowField_formatMAV]

theorem formatMAV_wordOf (op v : Byte) (a : Half) (mk : Half → Byte → Instr) :
    formatMAV (wordOf op (v ++ a)) mk = .ok (mk a v) := by
  rw [formatMAV, lowField_formatMAV, vByteField_formatMAV]

/-- Settles O1, one format at a time: the operation byte selects the row, and the row's format reads its operands
back. -/
theorem decodeOfEncodeIsTheOperation : Obligations.DecodeOfEncodeIsTheOperation := by
  intro cfg i h
  have op (b : Byte) (x : BitVec 24) : opField (wordOf b x) = b := opField_wordOf b x
  cases i with
  | sendByte b => exact (decode_op_01 cfg (op _ _)).trans (formatB_wordOf _ b _)
  | start d =>
    refine (decode_op_10 cfg (op _ _)).trans (formatD_wordOf _ _ ?_)
    rintro x rfl
    exact h
  | descRead d f => exact (decode_op_30 cfg (op _ _)).trans (formatDF_wordOf _ f _ h)
  | descWrite d f v =>
    obtain ⟨hd, hv⟩ := Bool.and_eq_true_iff.mp h
    exact (decode_op_31 cfg (op _ _)).trans (formatDFV_wordOf _ _ hd hv)
  | memRead a => exact (decode_op_32 cfg (op _ _)).trans (formatMA_wordOf _ a _)
  | memWrite a v => exact (decode_op_33 cfg (op _ _)).trans (formatMAV_wordOf _ v a _)
  | prepareStopOrRestart isStop => cases isStop <;> exact formatN_wordOf _ _
  | sendAckBit isNack => cases isNack <;> exact formatN_wordOf _ _
  | _ => exact formatN_wordOf _ _

/-- Settles O3: each worked word is the encoder's word of an operation that is well formed under the default
parameters. -/
theorem workedEncodingsDecode : Obligations.WorkedEncodingsDecode := by
  have worked (i : Instr) (h : i.wf Config.default = true) : decode Config.default (encode i) = .ok i :=
    decodeOfEncodeIsTheOperation Config.default i h
  exact ⟨worked (.start (some 0)) rfl, worked (.start none) rfl,
    worked (.descWrite 0 .addr 0x00D0) rfl, worked (.descWrite 0 .kind 0x0001) rfl,
    worked (.descWrite 0 .rem 0x0003) rfl, worked (.descWrite 0 .cur 0x0200) rfl,
    worked (.descWrite 0 .cont 0x0000) rfl, worked (.memWrite 0x0201 0x12) rfl, worked .getError rfl⟩

/-! ### What each format reads from a word it accepts (R89, R90) -/

section Accepted

variable {cfg : Config} {w : Word} {j : Instr}

theorem formatB_mbz {mk : Byte → Instr} (h : formatB w mk = .ok j) : w.extractLsb' 8 16 = 0#16 := by
  unfold formatB at h
  split at h <;> cases h
  assumption

theorem formatD_fields {mk : Option DescRef → Instr} (h : formatD cfg w mk = .ok j) :
    w.extractLsb' 0 20 = 0#20 ∧ ∃ d, j = mk d ∧ descBits d = dField w ∧ ∀ x, d = some x → descExists cfg x = true := by
  unfold formatD at h
  split at h
  case isFalse => cases h
  case isTrue hz =>
    refine ⟨of_decide_eq_true hz, ?_⟩
    split at h
    case isTrue hnull => cases h; exact ⟨none, rfl, hnull.symm, nofun⟩
    case isFalse =>
      cases hd : descOf cfg (dField w) <;> rw [hd] at h <;> cases h
      case ok d =>
        obtain ⟨hbits, hex⟩ := descOf_ok hd
        exact ⟨some d, rfl, hbits, fun _ hx => Option.some.inj hx ▸ hex⟩

theorem formatDF_fields {mk : DescRef → Field → Instr} (h : formatDF cfg w mk = .ok j) :
    w.extractLsb' 0 16 = 0#16 ∧ ∃ d f, descOf cfg (dField w) = .ok d ∧ fieldOf (fField w) = .ok f ∧ j = mk d f := by
  unfold formatDF at h
  split at h
  case isFalse => cases h
  case isTrue hz =>
    cases hd : descOf cfg (dField w) <;> rw [hd] at h <;> cases hf : fieldOf (fField w) <;> rw [hf] at h <;> cases h
    exact ⟨of_decide_eq_true hz, _, _, rfl, rfl, rfl⟩

theorem formatDFV_fields {mk : DescRef → Field → Half → Instr} (h : formatDFV cfg w mk = .ok j) :
    ∃ d f, descOf cfg (dField w) = .ok d ∧ fieldOf (fField w) = .ok f ∧ valueFits cfg f (lowField w) = true ∧
      j = mk d f (lowField w) := by
  unfold formatDFV at h
  cases hd : descOf cfg (dField w) <;> rw [hd] at h
  case error => cases h
  case ok d =>
    cases hf : fieldOf (fField w) <;> rw [hf] at h
    case error => cases h
    case ok f =>
      dsimp only [bind, Except.bind] at h
      split at h <;> cases h
      case isTrue hv => exact ⟨d, f, rfl, rfl, hv, rfl⟩

theorem formatMA_mbz {mk : Half → Instr} (h : formatMA w mk = .ok j) : vByteField w = 0#8 := by
  unfold formatMA at h
  split at h <;> cases h
  assumption

end Accepted

/-! ### An accepted word is rebuilt from its fields -/

section Rebuilt

variable {w : Word} {op : Byte}

theorem wordOf_of_fields {x : BitVec 24} (hop : (opField w).toNat = op.toNat) (hx : w.extractLsb' 0 24 = x) :
    wordOf op x = w := by
  rw [← BitVec.eq_of_toNat_eq hop, ← hx, wordOf_fields]

theorem wordOf_bytes {m : BitVec 16} {b : Byte} (hop : (opField w).toNat = op.toNat) (hm : w.extractLsb' 8 16 = m)
    (hb : bField w = b) : wordOf op (m ++ b) = w := by
  subst hm hb
  exact wordOf_of_fields hop (operands_split w 8 16 rfl)

theorem wordOf_desc {d : BitVec 4} {z : BitVec 20} (hop : (opField w).toNat = op.toNat) (hd : dField w = d)
    (hz : w.extractLsb' 0 20 = z) : wordOf op (d ++ z) = w := by
  subst hd hz
  exact wordOf_of_fields hop (operands_split w 20 4 rfl)

theorem wordOf_halves {x : Byte} {v : Half} (hop : (opField w).toNat = op.toNat) (hx : vByteField w = x)
    (hv : lowField w = v) : wordOf op (x ++ v) = w := by
  subst hx hv
  exact wordOf_of_fields hop (operands_split w 16 8 rfl)

/-- `D` and `F` are the two halves of the byte above the low field. -/
theorem vByteField_eq_append (w : Word) : vByteField w = dField w ++ fField w := by
  apply BitVec.eq_of_getLsbD_eq
  intro k hk
  simp only [vByteField, dField, fField, BitVec.getLsbD_append, BitVec.getLsbD_extractLsb']
  by_cases h : k < 4
  · simp [h, hk]
  · simp [h, hk, show k - 4 < 4 by omega, show 20 + (k - 4) = 16 + k by omega]

end Rebuilt

/-- R89 to R92: encoding the operation the decoder reads gives the word back. -/
theorem encode_of_decode {cfg : Config} {w : Word} {i : Instr} (h : decode cfg w = .ok i) : encode i = w := by
  unfold decode at h
  split at h <;> rename_i hop
  case h_2 =>
    rw [formatB_ok h]
    exact wordOf_bytes hop (formatB_mbz h) rfl
  case h_12 =>
    obtain ⟨hz, d, rfl, hd, -⟩ := formatD_fields h
    exact wordOf_desc hop hd.symm hz
  case h_22 =>
    obtain ⟨hz, d, f, hd, hf, rfl⟩ := formatDF_fields h
    refine wordOf_halves hop ?_ hz
    rw [vByteField_eq_append, (descOf_ok hd).1, fieldOf_ok hf]
  case h_23 =>
    obtain ⟨d, f, hd, hf, -, rfl⟩ := formatDFV_fields h
    refine wordOf_halves hop ?_ rfl
    rw [vByteField_eq_append, (descOf_ok hd).1, fieldOf_ok hf]
  case h_24 =>
    rw [formatMA_ok h]
    exact wordOf_halves hop (formatMA_mbz h) rfl
  case h_25 =>
    cases h
    exact wordOf_halves hop rfl rfl
  case h_41 => cases h
  all_goals
    obtain ⟨rfl, hz⟩ := formatN_ok h
    exact wordOf_of_fields hop hz

/-- Settles O2: the two halves of what a word's acceptance says. -/
theorem acceptedWordIsItsOperationsWord : Obligations.AcceptedWordIsItsOperationsWord :=
  fun _ _ _ h => ⟨encode_of_decode h, wf_of_decode h⟩

/-! ### Refused words (R89, R90, R92) -/

/-- The operation bytes of R91. -/
def listedOps : List Nat :=
  [0x00, 0x01, 0x02, 0x03, 0x04, 0x05, 0x06, 0x07, 0x08, 0x0A, 0x0B, 0x10, 0x11, 0x12, 0x13, 0x20, 0x21, 0x22,
    0x23, 0x24, 0x25, 0x30, 0x31, 0x32, 0x33, 0x40, 0x41, 0x42, 0x43, 0x44, 0x45, 0x46, 0x47, 0x48, 0x49, 0x4A,
    0x50, 0x60, 0x61, 0x70]

/-- The operation bytes of formats N and S in R91: those whose words have no operand. -/
def formatNOps : List Nat := listedOps.filter (· ∉ [0x01, 0x10, 0x30, 0x31, 0x32, 0x33])

section Refusals

variable {cfg : Config} {w : Word}

theorem exists_error_of_not_ok {x : Except Reject Instr} (h : ∀ i, x ≠ .ok i) : ∃ e, x = .error e := by
  cases x with
  | error e => exact ⟨e, rfl⟩
  | ok i => exact absurd rfl (h i)

/-- R90: `D` of an existing descriptor is below `N_DESC`. -/
theorem descBits_toNat_lt {d : DescRef} (h : descExists cfg d = true) : (descBits (some d)).toNat < cfg.nDesc := by
  have hlt := d.isLt
  have hd : d.val < cfg.nDesc := of_decide_eq_true h
  simp only [descBits, BitVec.toNat_ofNat]
  omega

theorem descOf_ne_ok {c : BitVec 4} {d : DescRef} (hc : cfg.nDesc ≤ c.toNat ∨ c = 15#4) : descOf cfg c ≠ .ok d := by
  intro h
  obtain ⟨rfl, hex⟩ := descOf_ok h
  exact hc.elim (Nat.not_le.mpr (descBits_toNat_lt hex)) (descBits_ne_null d)

theorem fieldOf_ne_ok {c : BitVec 4} {f : Field} (hc : 5 ≤ c.toNat) : fieldOf c ≠ .ok f := by
  intro h
  rw [← fieldOf_ok h] at hc
  cases f <;> exact absurd hc (by decide)

/-- A field of `V` in a DESC_WRITE word is a field of the word. -/
theorem lowField_extract (w : Word) (lo len : Nat) (h : lo + len ≤ 16) :
    (lowField w).extractLsb' lo len = w.extractLsb' lo len := by
  apply BitVec.eq_of_getLsbD_eq
  intro k hk
  simp [lowField, show lo + k < 16 by omega]

/-- R92: the operation bytes of R91 are the only ones the decoder knows. -/
theorem decode_unlisted (h : (opField w).toNat ∉ listedOps) : decode cfg w = .error (.unlistedOp (opField w)) := by
  unfold decode
  split
  case h_41 => rfl
  all_goals
    rename_i hop
    rw [hop] at h
    exact absurd (by decide) h

/-- R89, R91: a word with one of these bytes is read in format N. -/
theorem decode_eq_formatN (h : (opField w).toNat ∈ formatNOps) : ∃ i, decode cfg w = formatN w i := by
  unfold decode
  split
  case h_2 | h_12 | h_22 | h_23 | h_24 | h_25 =>
    rename_i hop
    rw [hop] at h
    exact absurd h (by decide)
  case h_41 => simp_all [formatNOps, listedOps]
  all_goals exact ⟨_, rfl⟩

theorem formatN_error (h : w.extractLsb' 0 24 ≠ 0#24) (i : Instr) : formatN w i = .error .mbzSet :=
  if_neg (by simpa [lowZero] using h)

/-- R90: outside START, `D` names an existing descriptor and `F` a field. -/
theorem decode_desc_error (hop : opField w = 0x30#8 ∨ opField w = 0x31#8)
    (h : cfg.nDesc ≤ (dField w).toNat ∨ dField w = 15#4 ∨ 5 ≤ (fField w).toNat) : ∃ e, decode cfg w = .error e := by
  have refused {d : DescRef} {f : Field} (hd : descOf cfg (dField w) = .ok d) (hf : fieldOf (fField w) = .ok f) :
      False :=
    (or_assoc.mpr h).elim (descOf_ne_ok · hd) (fieldOf_ne_ok · hf)
  refine exists_error_of_not_ok fun i hi => ?_
  rcases hop with hop | hop
  · rw [decode_op_30 cfg hop] at hi
    obtain ⟨-, d, f, hd, hf, -⟩ := formatDF_fields hi
    exact refused hd hf
  · rw [decode_op_31 cfg hop] at hi
    obtain ⟨d, f, hd, hf, -⟩ := formatDFV_fields hi
    exact refused hd hf

/-- R90: a descriptor number at or above `N_DESC` other than NULL is no operand of START. -/
theorem decode_start_error (hop : opField w = 0x10#8) (h : cfg.nDesc ≤ (dField w).toNat) (hnull : dField w ≠ 15#4) :
    ∃ e, decode cfg w = .error e := by
  refine exists_error_of_not_ok fun i hi => ?_
  rw [decode_op_10 cfg hop] at hi
  obtain ⟨-, d, -, hd, hex⟩ := formatD_fields hi
  rw [← hd] at h hnull
  cases d with
  | none => exact hnull rfl
  | some d => exact Nat.not_le.mpr (descBits_toNat_lt (hex d rfl)) h

/-- R90: DESC_WRITE takes no value that fails the check of its field. -/
theorem decode_descWrite_error {f : Field} (hop : opField w = 0x31#8) (hf : fField w = f.selector)
    (hv : valueFits cfg f (lowField w) = false) : ∃ e, decode cfg w = .error e := by
  refine exists_error_of_not_ok fun i hi => ?_
  rw [decode_op_31 cfg hop] at hi
  obtain ⟨d, g, -, hg, hfits, -⟩ := formatDFV_fields hi
  rw [hf, fieldOf_selector] at hg
  cases hg
  exact absurd hfits (by simp [hv])

end Refusals

/-- Settles O4, clause by clause. -/
theorem reservedEncodingsAreRefused : Obligations.ReservedEncodingsAreRefused := by
  intro cfg w
  refine ⟨decode_unlisted, fun hop hz => ?_, fun hop hz => ?_, fun hop hz => ?_, fun hop hz => ?_, fun hop hz => ?_,
    decode_start_error, decode_desc_error, fun hop hv => ?_⟩
  · obtain ⟨i, hi⟩ := decode_eq_formatN (cfg := cfg) hop
    rw [hi, formatN_error hz]
  · exact (decode_op_01 cfg hop).trans (if_neg hz)
  · rw [decode_op_10 cfg hop, formatD, if_neg (by simpa [lowZero] using hz)]
  · rw [decode_op_30 cfg hop, formatDF, if_neg (by simpa [lowZero] using hz)]
  · exact (decode_op_32 cfg hop).trans (if_neg hz)
  · obtain ⟨hf, hv⟩ | ⟨hf, hv⟩ | ⟨hf, h0, hc⟩ := hv
    · refine decode_descWrite_error (f := .addr) hop hf ?_
      simpa [valueFits, lowField_extract] using hv
    · refine decode_descWrite_error (f := .kind) hop hf ?_
      simpa [valueFits, lowField_extract, imp_iff_not_or] using hv
    · refine decode_descWrite_error (f := .cont) hop hf ?_
      simp [valueFits, lowField, hc, h0]

end Sys2Proof.Machine
end

section
/-! PROOF. Settles O9, O15, O35 and O36: when the engine steps, its step in a reserved protocol state, and the
descriptor ports. -/

namespace Sys2Proof.Machine

/-! ### The engine's turn -/

/-- Settles O15: an enabled engine step answers a next state whether or not its act raises a fault (R191). -/
theorem engineStepIsEnabledExactlyWhenSignalled : Obligations.EngineStepIsEnabledExactlyWhenSignalled := by
  intro s i p hi
  rw [exec_of_stepState hi]
  constructor
  · rintro ⟨t, h⟩
    obtain ⟨⟨⟨hf, hr⟩, henabled⟩, -⟩ := engineStep_next h
    exact ⟨hf, hr, henabled⟩
  · rintro ⟨hf, hr, henabled⟩
    have ready : s.EngineReady p := ⟨⟨hf, hr⟩, henabled⟩
    cases ha : actOf i (s.setAsleep false) with
    | ok t => exact ⟨t, engineStep_ok ready ha⟩
    | error f => exact ⟨_, engineStep_error ready ha⟩

/-- Settles O9: a reserved code names no act, so the turn leaves the record of R208. -/
theorem reservedProtocolStateFaults : Obligations.ReservedProtocolStateFaults := by
  intro s rest k hr ha hen hpend hp
  have hrest : (s.setAgenda rest).Running := hr
  have hf : fetchTurn .engine (s.setAgenda rest) = .done (.next
      { s.setAgenda rest with faults :=
        [{ fault := .reservedState (PState.reserved k).code, agent := .engine, op := stepWord (.reserved k) }] }) := by
    simp [fetchTurn, fetchEngine, State.signalled, hen, hpend, hp, PState.stepInstr, takeFault_eq hrest]
  simp only [step, fetch_running hr ha, hf]
  rfl

/-! ### The descriptor ports (R157, R158) -/

section Ports

variable {s : State} {d : DescRef} {f : Field} {v : Half}

theorem exec_descRead_written (hr : s.ForegroundReady) (h : (s.desc d).fieldWord f = some v) :
    exec (.descRead d f) s = .next { s with rv := some v } := by
  simp only [exec, execDescRead, h]
  exact foregroundStep_ok hr

theorem exec_descRead_unwritten (hr : s.ForegroundReady) (h : (s.desc d).fieldWord f = none) :
    exec (.descRead d f) s = .next (s.faulted (.descRead d f) (.unwrittenRead (.descField d f))) := by
  simp only [exec, execDescRead, h]
  exact foregroundStep_error hr

theorem exec_descWrite_owned (hr : s.ForegroundReady) (h : s.live = some d ∧ s.sigEn = true) :
    exec (.descWrite d f v) s = .next (s.faulted (.descWrite d f v) (.ownershipViolation .descWrite)) := by
  simp only [exec, execDescWrite, if_pos h]
  exact foregroundStep_error hr

theorem exec_descWrite_free (hr : s.ForegroundReady) (h : ¬ (s.live = some d ∧ s.sigEn = true)) :
    exec (.descWrite d f v) s = .next (s.setDesc d ((s.desc d).writeField f v)) := by
  simp only [exec, execDescWrite, if_neg h]
  exact foregroundStep_ok hr

end Ports

/-- Settles O35: the word of a written field, and `⊥` of an unwritten one. -/
theorem descReadReturnsTheField : Obligations.DescReadReturnsTheField := by
  intro s d hr
  have written {f : Field} {v : Half} := exec_descRead_written (d := d) (f := f) (v := v) hr
  have unwritten {f : Field} := exec_descRead_unwritten (d := d) (f := f) hr
  refine ⟨fun a h => written ?_, fun r h => written h, fun k h => written ?_, fun c h => written h, fun h => written ?_,
    fun c h => written ?_, fun h => unwritten ?_, fun h => unwritten h, fun h => unwritten ?_, fun h => unwritten h,
    fun h => unwritten ?_⟩ <;> rw [Desc.fieldWord, h]
  case refine_2 => cases k <;> rfl
  all_goals rfl

/-- Settles O36: the engine's ownership, then the field written; a kind is the one whose code the value holds. -/
theorem descWriteWritesOneField : Obligations.DescWriteWritesOneField := by
  intro s d v hr
  refine ⟨fun hl hen f => exec_descWrite_owned hr ⟨hl, hen⟩, fun hfree => ?_⟩
  have written (f : Field) : exec (.descWrite d f v) s = .next (s.setDesc d ((s.desc d).writeField f v)) :=
    exec_descWrite_free hr fun ⟨hl, hen⟩ => hfree.elim (· hl) (by simp [hen])
  refine ⟨written .addr, written .rem, fun k hk => ?_, written .cur, written .cont⟩
  have hcode : v.extractLsb' 0 3 = k.code := hk.trans (by cases k <;> rfl)
  rw [written, Desc.writeField, hcode, Kind.ofCode_code]
  rfl

end Sys2Proof.Machine
end

section
/-! PROOF. Settles O11 to O14: the bit-transfer primitives taken alone, and the shifter's step. -/

namespace Sys2Proof.Machine

section Primitives

variable {s t : State} {i : Instr} {op : ShiftOp} {b : Byte} {f : ModelFault} {r : Except ModelFault State}

/-! ### A primitive by its result -/

theorem primitiveStep_of_ok (hr : s.Running) (h : r = .ok t) : primitiveStep i s r = .next t :=
  h ▸ primitiveStep_ok hr

theorem primitiveStep_of_error (hr : s.Running) (h : r = .error f) :
    primitiveStep i s r = .next { s with faults := [{ fault := f, agent := .engine, op := encode i }] } :=
  h ▸ primitiveStep_error hr

/-! ### The results of the shared operations -/

/-- R101: nothing is armed over a shift in flight. -/
theorem arm_overlap (h : s.shift ≠ none) : s.arm op = .error (.shiftOverlap op) := by
  obtain ⟨o, ho⟩ := Option.ne_none_iff_exists'.mp h
  simp [State.arm, ho]

/-- R107: outside StopReady a stop condition is a violation. -/
theorem issueStop_violation (h : s.buscond ≠ .stopReady) : s.issueStop = .error (.busConditionViolation .stop) := by
  unfold State.issueStop
  split
  · exact absurd ‹_› h
  all_goals rfl

theorem readReceivedByte_of_sr (h : s.sr = some b) : s.readReceivedByte = .ok b := by
  simp [State.readReceivedByte, h]

theorem readAckBit_of_sr (h : s.sr = some b) : s.readAckBit = .ok (b.getLsbD 0) := by
  simp [State.readAckBit, h]

/-- R113: the draw is the environment's next answer where it has named one. -/
theorem nextDraw_of_draws {rest : List Byte} (h : s.draws = b :: rest) : s.nextDraw = b := by
  simp only [State.nextDraw, h]

/-! ### The shifter's step (R112) -/

theorem exec_shiftComplete_of_shift (hr : s.Running) (h : s.shift = some op) :
    exec .shiftComplete s = .next (s.completeShift op) := by
  simp only [exec, execShiftComplete, halted_of_running hr, h]
  rfl

theorem exec_shiftComplete_of_none (hr : s.Running) (h : s.shift = none) :
    exec .shiftComplete s = .fault .noShiftInFlight := by
  simp only [exec, execShiftComplete, halted_of_running hr, h]

end Primitives

/-! ### The obligations -/

/-- Settles O11: the five arming primitives are `arm` of their shift (R103, R104, R106, R108, R110). -/
theorem armingPrimitivesArmTheirShift : Obligations.ArmingPrimitivesArmTheirShift := by
  intro s hr
  refine ⟨fun h => ?_, fun h => ?_⟩
  · have armed (i : Instr) (op : ShiftOp) := primitiveStep_of_ok (i := i) hr (arm_none (op := op) h)
    exact ⟨fun b => armed _ (.tx8 b), armed _ .rx8, fun p => armed _ (.prep p), armed _ .rx1, fun n => armed _ (.tx1 n)⟩
  · have overlap (i : Instr) (op : ShiftOp) := primitiveStep_of_error (i := i) hr (arm_overlap (op := op) h)
    exact ⟨fun b => overlap (.sendByte b) (.tx8 b), overlap .receiveByte .rx8,
      fun p => overlap (.prepareStopOrRestart p) (.prep p), overlap .prepareAckPhase .rx1,
      fun n => overlap (.sendAckBit n) (.tx1 n)⟩

/-- Settles O12, one bus condition at a time. -/
theorem startAndStopConditionsFollowTheBus : Obligations.StartAndStopConditionsFollowTheBus := by
  intro s hr
  refine ⟨fun h => primitiveStep_of_ok hr ?_, fun h => primitiveStep_of_ok hr ?_,
    fun h => primitiveStep_of_error hr ?_, fun h => primitiveStep_of_ok hr ?_,
    fun h => primitiveStep_of_error hr (issueStop_violation h)⟩
  · simp only [State.issueStart, h]; rfl
  · simp only [State.issueStart, h]; rfl
  · obtain h | h := h <;> simp only [State.issueStart, h]
  · simp only [State.issueStop, h]; rfl

/-- Settles O13: both reads go through `SR`, written or not, and hand their value to the calling act. -/
theorem readingPrimitivesReturnTheShiftRegister : Obligations.ReadingPrimitivesReturnTheShiftRegister := by
  intro s hr
  refine ⟨fun b h => ?_, fun h => ?_⟩
  · have hbyte := readReceivedByte_of_sr h
    have hbit := readAckBit_of_sr h
    exact ⟨hbyte, primitiveStep_of_ok hr (by rw [hbyte]; rfl), hbit, primitiveStep_of_ok hr (by rw [hbit]; rfl)⟩
  · exact ⟨primitiveStep_of_error hr (by simp only [State.readReceivedByte, h]; rfl),
      primitiveStep_of_error hr (by simp only [State.readAckBit, h]; rfl)⟩

/-- Settles O14: the drawn byte is the oracle's next, and the event and the bus condition are those of the shift. -/
theorem shiftCompletionActsOnTheBus : Obligations.ShiftCompletionActsOnTheBus := by
  intro s hr
  refine ⟨exec_shiftComplete_of_none hr, fun op h => ⟨s.nextDraw, fun b rest hd => nextDraw_of_draws hd, ?_⟩⟩
  rw [exec_shiftComplete_of_shift hr h, completeShift_eq]
  cases op with
  | prep p => cases p <;> rfl
  | tx8 | rx8 | rx1 | tx1 => rfl

end Sys2Proof.Machine
end

section
/-! PROOF. The turns of a transaction that nothing disturbs: the results of the acts, and what an engine step and the
completion it waits for make of the state. -/

namespace Sys2Proof.Machine

/-! ### The results of the acts -/

section Results

variable {s : State} {d : DescRef} {k : Kind} {dir : Dir} {a b : Byte} {r c : Half}

theorem actStart_eq (hl : s.live = some d) (hk : (s.desc d).kind = some k) (hdir : dirOf k = some dir)
    (ha : (s.desc d).addr = some a) (hbit : addrDirBit a = dir.bit)
    (hbus : s.buscond = .idle ∨ s.buscond = .restartReady) (hs : s.shift = none) :
    actStart s = .ok { s with
      nackf := false
      ghostDir := some dir
      trace := s.trace ++ [if s.buscond = .idle then .start else .rstart]
      buscond := .active
      shift := some (.tx8 (wireByte s.cfg a))
      sigPend := false
      pstate := .addrAckPrep } := by
  obtain ⟨t, ht⟩ := actStart_succeeds hl hk hdir ha hbit hbus hs
  obtain ⟨e, k', dir', a', hl', hk', hdir', ha', -, -, -, rfl⟩ := actStart_ok ht
  cases hl.symm.trans hl'
  cases hk.symm.trans hk'
  cases hdir.symm.trans hdir'
  cases ha.symm.trans ha'
  exact ht

theorem actSendByte_eq (hl : s.live = some d) (hr : (s.desc d).rem = some r) (h0 : r ≠ 0)
    (hc : (s.desc d).cur = some c) (hadm : admits s.cfg c = true) (hs : s.shift = none) :
    actSendByte s = .ok ((((s.advance d r c).setShift (some (.tx8 (Memory.read s.hmem c.toNat)))).setSigPend
      false).setPstate .dataAckPrep) := by
  obtain ⟨t, ht⟩ := actSendByte_succeeds hl hr h0 ⟨c, hc, hadm⟩ hs
  obtain ⟨e, r', c', hl', hr', -, hc', -, -, rfl⟩ := actSendByte_ok ht
  cases hl.symm.trans hl'
  cases hr.symm.trans hr'
  cases hc.symm.trans hc'
  exact ht

theorem actReceiveStore_eq (hl : s.live = some d) (hk : (s.desc d).kind = some k) (hdir : dirOf k = some dir)
    (hg : s.ghostDir = some dir) (hr : (s.desc d).rem = some r) (h0 : r ≠ 0) (hb : s.sr = some b)
    (hc : (s.desc d).cur = some c) (hadm : admits s.cfg c = true) (hs : s.shift = none) :
    actReceiveStore s = .ok (((((s.setHmem (Memory.write s.hmem c.toNat b)).advance d r c).setShift
      (some (.tx1 (lastByteNack k r)))).setSigPend false).setPstate .rxAckSent) := by
  obtain ⟨t, ht⟩ := actReceiveStore_succeeds hl hk hdir hg hr h0 (by simp [hb]) ⟨c, hc, hadm⟩ hs
  obtain ⟨e, r', k', dir', b', c', hl', hr', -, hk', -, -, hb', hc', -, -, rfl⟩ := actReceiveStore_ok ht
  cases hl.symm.trans hl'
  cases hk.symm.trans hk'
  cases hr.symm.trans hr'
  cases hb.symm.trans hb'
  cases hc.symm.trans hc'
  exact ht

theorem actAddrAckPrep_eq (hs : s.shift = none) :
    actAddrAckPrep s = .ok (((s.setShift (some .rx1)).setSigPend false).setPstate .addrAckCheck) := by
  simp [actAddrAckPrep, arm_none hs]

theorem actDataAckPrep_eq (hs : s.shift = none) :
    actDataAckPrep s = .ok (((s.setShift (some .rx1)).setSigPend false).setPstate .dataAckCheck) := by
  simp [actDataAckPrep, arm_none hs]

theorem actReceiveByte_eq (hs : s.shift = none) :
    actReceiveByte s = .ok (((s.setShift (some .rx8)).setSigPend false).setPstate .receiveStore) := by
  simp [actReceiveByte, arm_none hs]

theorem actStop_eq (hb : s.buscond = .stopReady) :
    actStop s = .ok (((((s.emit .stop).setBuscond .idle).setEvent true).setSigEn false).setPstate .start) := by
  simp [actStop, State.issueStop, hb]

/-- R139: a kind that does not restart prepares a true stop. -/
theorem actPrepareStop_eq (hl : s.live = some d) (hk : (s.desc d).kind = some k) (hdir : dirOf k = some dir)
    (hres : isRestart k = false) (hs : s.shift = none) :
    actPrepareStop s = .ok (((s.setShift (some (.prep true))).setSigPend false).setPstate .stop) := by
  simp [actPrepareStop, liveRef_of_live hl, readKind_of_kind hk, kindDir_of_dirOf hdir, hres, arm_none hs]

/-- R131: what the decision after a positive acknowledgement reads before it decides. -/
theorem afterAck_eq (hl : s.live = some d) (hk : (s.desc d).kind = some k) (hdir : dirOf k = some dir)
    (hg : s.ghostDir = some dir) (hr : (s.desc d).rem = some r) :
    (r = 0 → isSuspend k = false → afterAck s = actPrepareStop (s.setPstate .prepareStop)) ∧
    (r ≠ 0 → dir = .w → afterAck s = actSendByte (s.setPstate .sendByte)) ∧
    (r ≠ 0 → dir = .r → afterAck s = actReceiveByte (s.setPstate .receiveByte)) := by
  have hread : s.readRem d = .ok r := by simp [State.readRem, hr]
  simp only [afterAck, liveRef_of_live hl, readKind_of_kind hk, kindDir_of_dirOf hdir, checkDir_of_ghostDir hg, hread,
    ok_bind]
  refine ⟨?_, ?_, ?_⟩
  · rintro rfl hsus
    simp [hsus]
  · rintro h0 rfl
    exact if_neg h0
  · rintro h0 rfl
    exact if_neg h0

/-- A positive acknowledgement comes to the decision after it (R129, R135, R138). -/
theorem act_of_positiveAck {i : Instr} {p : PState} (h : s.PositiveAck i p) :
    i.stepState = some p ∧ actOf i s = afterAck s := by
  obtain ⟨rfl, rfl, b, hb, h0⟩ | ⟨rfl, rfl, b, hb, h0⟩ | ⟨rfl, rfl⟩ := h
  · exact ⟨rfl, by simp only [actOf, actAddrAckCheck, readAckBit_of_sr hb, ok_bind, h0]; rfl⟩
  · exact ⟨rfl, by simp only [actOf, actDataAckCheck, readAckBit_of_sr hb, ok_bind, h0]; rfl⟩
  · exact ⟨rfl, rfl⟩

end Results

/-! ### Turns on the run -/

/-- The next draw is a matter of the oracle alone (R113). -/
theorem nextDraw_congr {s t : State} (hd : t.draws = s.draws) (hc : t.drawCount = s.drawCount) :
    t.nextDraw = s.nextDraw := by
  simp only [State.nextDraw, hd, hc]

/-- The turns of `n` rounds: an engine step, and the completion of the shift it armed. -/
def roundTurns (n : Nat) : List Turn :=
  match n with
  | 0 => []
  | n + 1 => .engine :: .shifter :: roundTurns n

/-- A schedule of `busTurns` ends in the engine step of the last completion. -/
theorem busTurns_eq (n : Nat) : busTurns n = roundTurns n ++ [.engine] := by
  induction n with
  | zero => rfl
  | succ n ih =>
    rw [roundTurns, List.cons_append, List.cons_append, ← ih]
    rfl

@[simp] theorem length_roundTurns (n : Nat) : (roundTurns n).length = 2 * n := by
  induction n with
  | zero => rfl
  | succ n ih => rw [roundTurns, List.length_cons, List.length_cons, ih, Nat.mul_succ]

theorem roundTurns_add (n m : Nat) : roundTurns (n + m) = roundTurns n ++ roundTurns m := by
  induction n with
  | zero => simp [roundTurns]
  | succ n ih => rw [Nat.add_right_comm, roundTurns, ih]; rfl

/-- After `n` turns and `m` draws of the oracle the machine goes from `s` to `t`, with the events `es` on the bus; no fault
is raised and no error code written. -/
structure Progress (s t : State) (n m : Nat) (es : List BusEvent) : Prop where
  run : Host.Core.run core n s = .next t
  running : t.Running
  agenda : t.agenda = s.agenda.drop n
  draws : t.draws = s.draws.drop m
  trace : t.trace = s.trace ++ es
  cfg : t.cfg = s.cfg
  err : t.err = s.err
  busy : t.busy = s.busy

theorem run_add {s t : State} {n : Nat} (m : Nat) (h : Host.Core.run core n s = .next t) :
    Host.Core.run core (n + m) s = Host.Core.run core m t := by
  induction n generalizing s with
  | zero => cases h; rw [Nat.zero_add]
  | succ n ih =>
    rw [Nat.add_right_comm]
    cases hs : core.step s with
    | next u => simp only [Host.Core.run, hs] at h ⊢; exact ih h
    | fault r => simp only [Host.Core.run, hs] at h; cases h
    | refused r => simp only [Host.Core.run, hs] at h; cases h

namespace Progress

variable {s t u : State} {n m n' m' : Nat} {es es' : List BusEvent} {i : Instr} {p : PState} {op : ShiftOp}
  {rest : List Turn}

theorem refl (hr : s.Running) : Progress s s 0 0 [] :=
  ⟨rfl, hr, rfl, rfl, (List.append_nil _).symm, rfl, rfl, rfl⟩

theorem trans (h : Progress s t n m es) (h' : Progress t u n' m' es') :
    Progress s u (n + n') (m + m') (es ++ es') where
  run := (run_add n' h.run).trans h'.run
  running := h'.running
  agenda := by rw [h'.agenda, h.agenda, List.drop_drop]
  draws := by rw [h'.draws, h.draws, List.drop_drop]
  trace := by rw [h'.trace, h.trace, List.append_assoc]
  cfg := h'.cfg.trans h.cfg
  err := h'.err.trans h.err
  busy := h'.busy.trans h.busy

/-- The turns taken are the first ones of the schedule. -/
theorem agenda_of_append {taken : List Turn} (h : Progress s t n m es) (ha : s.agenda = taken ++ rest)
    (hn : taken.length = n) : t.agenda = rest := by
  rw [h.agenda, ha, List.drop_left' hn]

/-- The engine's turn takes the act of `PSTATE` (R126). -/
theorem engine (hi : i.stepState = some p) (hr : s.EngineReady p) (ha : s.agenda = .engine :: rest)
    (hact : actOf i ((s.setAgenda rest).setAsleep false) = .ok t) (htr : t.trace = s.trace ++ es)
    (herr : t.err = s.err) : Progress s t 1 0 es := by
  obtain ⟨hrun, hen, hpend, rfl⟩ := hr
  have hstep : step s = .next t := by
    rw [step_of_runs hrun ha (.engine i (by simp [State.signalled, hen, hpend]) (stepInstr_of_stepState hi)),
      exec_of_stepState hi]
    exact engineStep_ok ⟨hrun, hen, hpend, rfl⟩ hact
  have hend := act_end hi hact
  exact
    { run := run_succ hstep rfl
      running := hend.carries.running hrun
      agenda := by rw [hend.carries.agenda, ha]; rfl
      draws := hend.keeps.draws
      trace := htr
      cfg := hend.carries.cfg
      err := herr
      busy := hend.keeps.busy }

/-- The shifter's turn completes the shift in flight (R112). -/
theorem shifter (hr : s.Running) (ha : s.agenda = .shifter :: rest) (hs : s.shift = some op) :
    Progress s ((s.setAgenda rest).completeShift op) 1 1 [op.event s.nextDraw] := by
  have hstep : step s = .next ((s.setAgenda rest).completeShift op) :=
    (step_of_runs hr ha .shifter).trans (exec_shiftComplete_of_shift hr hs)
  exact
    { run := run_succ hstep rfl
      running := by simpa [State.Running] using hr
      agenda := by simp [ha]
      draws := by simp
      trace := completeShift_trace _ op
      cfg := by simp
      err := by simp
      busy := by simp }

end Progress

/-! ### A transaction between two of its turns -/

/-- The engine is to run the act of `p` in the bus condition `cond`, in a transaction in direction `dir` of the
descriptor `d`, which holds `x`. -/
structure State.Acting (s : State) (p : PState) (cond : BusCond) (d : DescRef) (x : Desc) (dir : Dir) : Prop where
  ready : s.EngineReady p
  shift : s.shift = none
  bus : s.buscond = cond
  live : s.live = some d
  desc : s.desc d = x
  ghost : s.ghostDir = some dir

/-- An act that starts at `s` has put `es` on the bus and armed the shift `op`; the engine waits at `p` for its
completion. -/
structure State.Arms (s t : State) (op : ShiftOp) (p : PState) (d : DescRef) (x : Desc) (dir : Dir)
    (es : List BusEvent) : Prop where
  shift : t.shift = some op
  pstate : t.pstate = p
  sigEn : t.sigEn = true
  bus : t.buscond = .active
  live : t.live = some d
  desc : t.desc d = x
  ghost : t.ghostDir = some dir
  trace : t.trace = s.trace ++ es
  err : t.err = s.err

section Turns

variable {s t : State} {es : List BusEvent} {i : Instr} {p q : PState} {cond : BusCond} {op : ShiftOp}
  {rest : List Turn} {d : DescRef} {x : Desc} {dir : Dir}

/-- What an engine step finds: the state with the turn taken and the foreground awake (R126). -/
theorem State.Acting.onTurn (h : s.Acting p cond d x dir) (ts : List Turn) :
    ((s.setAgenda ts).setAsleep false).Acting p cond d x dir :=
  ⟨h.ready, h.shift, h.bus, h.live, h.desc, h.ghost⟩

/-- A completion hands the transaction back to the engine (R112, R114). -/
theorem State.Arms.acting (h : s.Arms t op p d x dir es) (hr : t.Running) :
    ((t.setAgenda rest).completeShift op).Acting p (op.buscondAfter .active) d x dir where
  ready := ⟨by simpa [State.Running] using hr, by simp [h.sigEn], by simp, by simp [h.pstate]⟩
  shift := by simp
  bus := by simp [h.bus]
  live := by simp [h.live]
  desc := by simp [h.desc]
  ghost := by simp [h.ghost]

/-- An engine step, and the completion of the shift its act armed, which leaves the draw in `SR`. -/
theorem Progress.round (hi : i.stepState = some p) (hr : s.EngineReady p) (ha : s.agenda = .engine :: .shifter :: rest)
    (hact : actOf i ((s.setAgenda (.shifter :: rest)).setAsleep false) = .ok t)
    (harm : ((s.setAgenda (.shifter :: rest)).setAsleep false).Arms t op q d x dir es) :
    ∃ u, Progress s u 2 1 (es ++ [op.event s.nextDraw]) ∧ u.Acting q (op.buscondAfter .active) d x dir ∧
      u.sr = some s.nextDraw ∧ u.hmem = t.hmem := by
  have hstep := engine hi hr ha hact harm.trace harm.err
  have hkeeps := (act_end hi hact).keeps
  have hdraw : t.nextDraw = s.nextDraw := nextDraw_congr hkeeps.draws hkeeps.drawCount
  have hshift := shifter (rest := rest) hstep.running (by simp [hstep.agenda, ha]) harm.shift
  rw [← hdraw]
  exact ⟨_, hstep.trans hshift, harm.acting hstep.running, completeShift_sr _ op, completeShift_hmem _ op⟩

end Turns

end Sys2Proof.Machine
end

section
/-! PROOF. The acts of a transaction from START to the stop-yield, on a descriptor under way, and their turns. -/

namespace Sys2Proof.Machine

/-! ### The descriptor under way -/

/-- A descriptor with `n` bytes to move from the cursor `c`. -/
def Desc.underWay (a : Byte) (k : Kind) (cont : Option ContRef) (n : Nat) (c : Half) : Desc :=
  { addr := some a, rem := some (BitVec.ofNat 16 n), kind := some k, cur := some c, cont := cont }

theorem ofNat_eq_zero {n : Nat} (h : n < 65536) : BitVec.ofNat 16 n = 0 ↔ n = 0 := by
  rw [← BitVec.toNat_inj, BitVec.toNat_ofNat, Nat.mod_eq_of_lt h]
  rfl

theorem ofNat_succ_ne_zero {n : Nat} (h : n + 1 < 65536) : BitVec.ofNat 16 (n + 1) ≠ 0 :=
  (ofNat_eq_zero h).not.mpr n.succ_ne_zero

theorem ofNat_succ_sub_one (n : Nat) : BitVec.ofNat 16 (n + 1) - 1 = BitVec.ofNat 16 n := by
  simp [BitVec.ofNat_add]

theorem add_one_add_ofNat (c : Half) (n : Nat) : c + 1 + BitVec.ofNat 16 n = c + BitVec.ofNat 16 (n + 1) := by
  rw [BitVec.add_assoc, BitVec.ofNat_add, BitVec.add_comm 1]
  rfl

/-- A byte moved leaves one byte less, from the next cursor (R133, R137). -/
theorem advance_underWay {s : State} {d : DescRef} {a : Byte} {k : Kind} {cont : Option ContRef} {n : Nat} {c : Half}
    (hx : s.desc d = .underWay a k cont (n + 1) c) :
    (s.advance d (BitVec.ofNat 16 (n + 1)) c).desc d = .underWay a k cont n (c + 1) := by
  simp only [State.advance, setDesc_desc_same, hx, ofNat_succ_sub_one, Desc.underWay]

/-- The master answers a received byte with a NACK where it is the last (R137). -/
theorem lastByteNack_ofNat {k : Kind} {n : Nat} (hn : n + 1 < 65536) (hsus : isSuspend k = false) :
    lastByteNack k (BitVec.ofNat 16 (n + 1)) = decide (n = 0) := by
  simp only [lastByteNack, ofNat_succ_sub_one, hsus, ofNat_eq_zero (Nat.lt_of_succ_lt hn), Bool.not_false,
    Bool.and_true]

section Transaction

variable {s : State} {d : DescRef} {x : Desc} {k : Kind} {dir : Dir} {p : PState} {cond : BusCond} {a v w : Byte}
  {n : Nat} {c : Half} {cont : Option ContRef} {more : List Byte} {rest : List Turn}

/-! ### The acts -/

/-- START puts the start condition and the address byte on the bus (R127). -/
theorem actStart_arms (hr : s.EngineReady .start) (hs : s.shift = none)
    (hbus : s.buscond = .idle ∨ s.buscond = .restartReady) (hl : s.live = some d)
    (hx : s.desc d = .underWay a k cont n c) (hdir : dirOf k = some dir) (hbit : addrDirBit a = dir.bit) :
    ∃ t, actStart s = .ok t ∧ t.hmem = s.hmem ∧
      s.Arms t (.tx8 (wireByte s.cfg a)) .addrAckPrep d (.underWay a k cont n c) dir
        [if s.buscond = .idle then .start else .rstart] := by
  obtain ⟨-, hen, -⟩ := hr
  have hact := actStart_eq hl (by rw [hx]; rfl) hdir (show (s.desc d).addr = some a by rw [hx]; rfl) hbit hbus hs
  exact ⟨_, hact, rfl, rfl, rfl, hen, rfl, hl, hx, rfl, rfl, rfl⟩

/-- The acts that prepare an acknowledgement arm its shift and go on to its check (R128, R134). -/
theorem ackPrep_arms (h : s.Acting p .active d x dir) (hp : p = .addrAckPrep ∨ p = .dataAckPrep) :
    ∃ i j q t, i.stepState = some p ∧ actOf i s = .ok t ∧ t.hmem = s.hmem ∧ s.Arms t .rx1 q d x dir [] ∧
      ∀ (u : State) (b : Byte), u.sr = some b → b.getLsbD 0 = false → u.PositiveAck j q := by
  obtain ⟨⟨-, hen, -⟩, hs, hbus, hl, hx, hg⟩ := h
  have harm (q : PState) : s.Arms (((s.setShift (some .rx1)).setSigPend false).setPstate q) .rx1 q d x dir [] :=
    ⟨rfl, rfl, hen, hbus, hl, hx, hg, (List.append_nil _).symm, rfl⟩
  obtain rfl | rfl := hp
  · exact ⟨.stepAddrAckPrep, .stepAddrAckCheck, _, _, rfl, actAddrAckPrep_eq hs, rfl, harm _,
      fun u b hb h0 => .inl ⟨rfl, rfl, b, hb, h0⟩⟩
  · exact ⟨.stepDataAckPrep, .stepDataAckCheck, _, _, rfl, actDataAckPrep_eq hs, rfl, harm _,
      fun u b hb h0 => .inr (.inl ⟨rfl, rfl, b, hb, h0⟩)⟩

/-- With a byte left to send, the decision sends the one at the cursor (R131, R133). -/
theorem afterAck_sends (h : s.Acting p .active d (.underWay a k cont (n + 1) c) .w) (hdir : dirOf k = some .w)
    (hn : n + 1 < 65536) (hadm : admits s.cfg c = true) :
    ∃ t, afterAck s = .ok t ∧ t.hmem = s.hmem ∧
      s.Arms t (.tx8 (Memory.read s.hmem c.toNat)) .dataAckPrep d (.underWay a k cont n (c + 1)) .w [] := by
  obtain ⟨⟨-, hen, -⟩, hs, hbus, hl, hx, hg⟩ := h
  have hrem : (s.desc d).rem = some (BitVec.ofNat 16 (n + 1)) := by rw [hx]; rfl
  have hcur : (s.desc d).cur = some c := by rw [hx]; rfl
  have h0 := ofNat_succ_ne_zero hn
  obtain ⟨-, hsend, -⟩ := afterAck_eq hl (by rw [hx]; rfl) hdir hg hrem
  have hact := actSendByte_eq (s := s.setPstate .sendByte) hl hrem h0 hcur hadm hs
  exact ⟨_, (hsend h0 rfl).trans hact, rfl, rfl, rfl, hen, hbus, hl, advance_underWay hx, hg, (List.append_nil _).symm,
    rfl⟩

/-- With a byte left to receive, the decision receives it (R131, R136). -/
theorem afterAck_receives (h : s.Acting p .active d (.underWay a k cont (n + 1) c) .r) (hdir : dirOf k = some .r)
    (hn : n + 1 < 65536) :
    ∃ t, afterAck s = .ok t ∧ t.hmem = s.hmem ∧
      s.Arms t .rx8 .receiveStore d (.underWay a k cont (n + 1) c) .r [] := by
  obtain ⟨⟨-, hen, -⟩, hs, hbus, hl, hx, hg⟩ := h
  have hrem : (s.desc d).rem = some (BitVec.ofNat 16 (n + 1)) := by rw [hx]; rfl
  obtain ⟨-, -, hreceive⟩ := afterAck_eq hl (by rw [hx]; rfl) hdir hg hrem
  have hact := actReceiveByte_eq (s := s.setPstate .receiveByte) hs
  exact ⟨_, (hreceive (ofNat_succ_ne_zero hn) rfl).trans hact, rfl, rfl, rfl, hen, hbus, hl, hx, hg,
    (List.append_nil _).symm, rfl⟩

/-- With no byte left, the decision of a ThenStop kind prepares a true stop (R131, R139). -/
theorem afterAck_stops (h : s.Acting p .active d (.underWay a k cont 0 c) dir) (hdir : dirOf k = some dir)
    (hsus : isSuspend k = false) (hres : isRestart k = false) :
    ∃ t, afterAck s = .ok t ∧ t.hmem = s.hmem ∧ s.Arms t (.prep true) .stop d (.underWay a k cont 0 c) dir [] := by
  obtain ⟨⟨-, hen, -⟩, hs, hbus, hl, hx, hg⟩ := h
  have hk : (s.desc d).kind = some k := by rw [hx]; rfl
  obtain ⟨hstop, -, -⟩ := afterAck_eq hl hk hdir hg (r := 0) (by rw [hx]; rfl)
  have hact := actPrepareStop_eq (s := s.setPstate .prepareStop) hl hk hdir hres hs
  exact ⟨_, (hstop rfl hsus).trans hact, rfl, rfl, rfl, hen, hbus, hl, hx, hg, (List.append_nil _).symm, rfl⟩

/-- The byte received is stored at the cursor, and the master answers it (R137). -/
theorem actReceiveStore_arms (h : s.Acting .receiveStore .active d (.underWay a k cont (n + 1) c) .r)
    (hdir : dirOf k = some .r) (hsus : isSuspend k = false) (hn : n + 1 < 65536) (hadm : admits s.cfg c = true)
    (hv : s.sr = some v) :
    ∃ t, actReceiveStore s = .ok t ∧ t.hmem = Memory.write s.hmem c.toNat v ∧
      s.Arms t (.tx1 (decide (n = 0))) .rxAckSent d (.underWay a k cont n (c + 1)) .r [] := by
  obtain ⟨⟨-, hen, -⟩, hs, hbus, hl, hx, hg⟩ := h
  have hact := actReceiveStore_eq hl (by rw [hx]; rfl) hdir hg (by rw [hx]; rfl) (ofNat_succ_ne_zero hn) hv
    (show (s.desc d).cur = some c by rw [hx]; rfl) hadm hs
  rw [lastByteNack_ofNat hn hsus] at hact
  exact ⟨_, hact, rfl, rfl, rfl, hen, hbus, hl, advance_underWay hx, hg, (List.append_nil _).symm, rfl⟩

/-- The stop-yield (R141). -/
theorem actStop_yields (h : s.Acting .stop .stopReady d x dir) :
    ∃ t, actStop s = .ok t ∧ t.trace = s.trace ++ [.stop] ∧ t.err = s.err ∧ t.desc d = x ∧ t.StopYielded ∧
      t.hmem = s.hmem := by
  obtain ⟨⟨-, -, hpend, -⟩, hs, hbus, -, hx, -⟩ := h
  exact ⟨_, actStop_eq hbus, rfl, rfl, hx, ⟨rfl, rfl, hpend, hs, rfl, rfl⟩, rfl⟩

/-! ### The turns -/

/-- The next act is the decision after a positive acknowledgement (R131). -/
def State.Deciding (s : State) (d : DescRef) (x : Desc) (dir : Dir) : Prop :=
  ∃ i p, s.PositiveAck i p ∧ s.Acting p .active d x dir

theorem State.Deciding.running (h : s.Deciding d x dir) : s.Running :=
  let ⟨_, _, _, hacting⟩ := h
  hacting.ready.1

/-- The act of such a state is the decision itself, also with the turn taken. -/
theorem State.Deciding.act (h : s.Deciding d x dir) (ts : List Turn) :
    ∃ i p, i.stepState = some p ∧ s.EngineReady p ∧ ((s.setAgenda ts).setAsleep false).Acting p .active d x dir ∧
      actOf i ((s.setAgenda ts).setAsleep false) = afterAck ((s.setAgenda ts).setAsleep false) := by
  obtain ⟨i, p, hpos, h⟩ := h
  obtain ⟨hi, hact⟩ := act_of_positiveAck (s := (s.setAgenda ts).setAsleep false) hpos
  exact ⟨i, p, hi, h.ready, h.onTurn ts, hact⟩

/-- The slave acknowledges the byte that is out. -/
theorem ack_round (h : s.Acting p .active d x dir) (hp : p = .addrAckPrep ∨ p = .dataAckPrep)
    (hdraw : ∃ b, s.draws[0]? = some b ∧ b.getLsbD 0 = false) (ha : s.agenda = .engine :: .shifter :: rest) :
    ∃ t, Progress s t 2 1 [.ackIn false] ∧ t.Deciding d x dir ∧ t.hmem = s.hmem := by
  obtain ⟨b, hb, h0⟩ := hdraw
  obtain ⟨more, hdraws⟩ := List.head?_eq_some_iff.mp (List.head?_eq_getElem?.trans hb)
  obtain ⟨i, j, q, u, hi, hact, hu, harm, hpos⟩ := ackPrep_arms (h.onTurn (.shifter :: rest)) hp
  obtain ⟨t, hprog, hacting, hsr, hm⟩ := Progress.round hi h.ready ha hact harm
  rw [nextDraw_of_draws hdraws] at hprog hsr
  rw [ShiftOp.event, h0] at hprog
  exact ⟨t, hprog, ⟨j, q, hpos t b hsr h0, hacting⟩, hm.trans hu⟩

/-- The start condition and the acknowledged address (R127 to R129). -/
theorem address_turns (hr : s.EngineReady .start) (hs : s.shift = none)
    (hbus : s.buscond = .idle ∨ s.buscond = .restartReady) (hl : s.live = some d)
    (hx : s.desc d = .underWay a k cont n c) (hdir : dirOf k = some dir) (hbit : addrDirBit a = dir.bit)
    (hdraw : ∃ b, s.draws[1]? = some b ∧ b.getLsbD 0 = false) (ha : s.agenda = roundTurns 2 ++ rest) :
    ∃ t, Progress s t 4 2 [if s.buscond = .idle then .start else .rstart, .tx (wireByte s.cfg a), .ackIn false] ∧
      t.Deciding d (.underWay a k cont n c) dir ∧ t.hmem = s.hmem := by
  obtain ⟨u, hact, hu, harm⟩ := actStart_arms (s := (s.setAgenda (.shifter :: roundTurns 1 ++ rest)).setAsleep false)
    hr hs hbus hl hx hdir hbit
  obtain ⟨t, hprog, hacting, -, hm⟩ := Progress.round (i := .stepStart) rfl hr ha hact harm
  obtain ⟨t', hprog', hdec, hm'⟩ := ack_round (rest := rest) hacting (.inl rfl) (by simpa [hprog.draws] using hdraw)
    (by rw [hprog.agenda, ha]; rfl)
  exact ⟨t', hprog.trans hprog', hdec, hm'.trans (hm.trans hu)⟩

/-- A byte sent and acknowledged (R133 to R135). -/
theorem sent_byte_turns (h : s.Deciding d (.underWay a k cont (n + 1) c) .w) (hdir : dirOf k = some .w)
    (hn : n + 1 < 65536) (hadm : admits s.cfg c = true) (hdraw : ∃ b, s.draws[1]? = some b ∧ b.getLsbD 0 = false)
    (ha : s.agenda = roundTurns 2 ++ rest) :
    ∃ t, Progress s t 4 2 [.tx (Memory.read s.hmem c.toNat), .ackIn false] ∧
      t.Deciding d (.underWay a k cont n (c + 1)) .w ∧ t.hmem = s.hmem := by
  obtain ⟨i, p, hi, hr, hs, hdecide⟩ := h.act (.shifter :: roundTurns 1 ++ rest)
  obtain ⟨u, hact, hu, harm⟩ := afterAck_sends hs hdir hn hadm
  obtain ⟨t, hprog, hacting, -, hm⟩ := Progress.round hi hr ha (hdecide.trans hact) harm
  obtain ⟨t', hprog', hdec, hm'⟩ := ack_round (rest := rest) hacting (.inr rfl) (by simpa [hprog.draws] using hdraw)
    (by rw [hprog.agenda, ha]; rfl)
  exact ⟨t', hprog.trans hprog', hdec, hm'.trans (hm.trans hu)⟩

/-- A byte received, stored and answered (R136 to R138). -/
theorem received_byte_turns (h : s.Deciding d (.underWay a k cont (n + 1) c) .r) (hdir : dirOf k = some .r)
    (hsus : isSuspend k = false) (hn : n + 1 < 65536) (hadm : admits s.cfg c = true) (hv : s.draws = v :: more)
    (ha : s.agenda = roundTurns 2 ++ rest) :
    ∃ t, Progress s t 4 2 [.rx v, .ackOut (decide (n = 0))] ∧ t.Deciding d (.underWay a k cont n (c + 1)) .r ∧
      t.hmem = Memory.write s.hmem c.toNat v := by
  obtain ⟨i, p, hi, hr, hs, hdecide⟩ := h.act (.shifter :: roundTurns 1 ++ rest)
  obtain ⟨u, hact, hu, harm⟩ := afterAck_receives hs hdir hn
  obtain ⟨t, hprog, hacting, hsr, hm⟩ := Progress.round hi hr ha (hdecide.trans hact) harm
  rw [nextDraw_of_draws hv] at hprog hsr
  obtain ⟨u', hact', hu', harm'⟩ := actReceiveStore_arms (hacting.onTurn (.shifter :: rest)) hdir hsus hn
    (hprog.cfg ▸ hadm) hsr
  obtain ⟨t', hprog', hacting', -, hm'⟩ := Progress.round (rest := rest) (i := .stepReceiveStore) rfl hacting.ready
    (by rw [hprog.agenda, ha]; rfl) hact' harm'
  have hmem : t.hmem = s.hmem := hm.trans hu
  exact ⟨t', hprog.trans hprog', ⟨.stepRxAckSent, .rxAckSent, .inr (.inr ⟨rfl, rfl⟩), hacting'⟩,
    (hm'.trans hu').trans (congrArg (Memory.write · c.toNat v) hmem)⟩

/-- The stop marker, and the stop-yield (R139, R141). -/
theorem stop_turns (h : s.Deciding d (.underWay a k cont 0 c) dir) (hdir : dirOf k = some dir)
    (hsus : isSuspend k = false) (hres : isRestart k = false) (ha : s.agenda = roundTurns 1 ++ .engine :: rest) :
    ∃ t, Progress s t 3 1 [.prepStop, .stop] ∧ t.desc d = .underWay a k cont 0 c ∧ t.StopYielded ∧
      t.hmem = s.hmem := by
  obtain ⟨i, p, hi, hr, hs, hdecide⟩ := h.act (.shifter :: .engine :: rest)
  obtain ⟨u, hact, hu, harm⟩ := afterAck_stops hs hdir hsus hres
  obtain ⟨t, hprog, hacting, -, hm⟩ := Progress.round hi hr ha (hdecide.trans hact) harm
  obtain ⟨w, hstop, htr, herr, hx, hyield, hm'⟩ := actStop_yields (hacting.onTurn rest)
  have hend := Progress.engine (i := .stepStop) rfl hacting.ready (by rw [hprog.agenda, ha]; rfl) hstop htr herr
  exact ⟨w, hprog.trans hend, hx, hyield, hm'.trans (hm.trans hu)⟩

end Transaction

end Sys2Proof.Machine
end

section
/-! PROOF. Settles O59 and O60: the phase of the bytes, by induction on how many there are, and the buffer it leaves. -/

namespace Sys2Proof.Machine

/-! ### The buffer of a receive phase -/

/-- `HMEM` after the bytes `vs` have been stored at `c`, `c + 1`, … (R137). -/
def Memory.store (m : Memory) (c : Half) (vs : List Byte) : Memory :=
  match vs with
  | [] => m
  | v :: vs => Memory.store (Memory.write m c.toNat v) (c + 1) vs

/-- A byte outside the buffer reads as before. -/
theorem Memory.read_store_ne {m : Memory} {c : Half} {vs : List Byte} {a : Nat}
    (h : ∀ j, j < vs.length → a ≠ (c + BitVec.ofNat 16 j).toNat) :
    Memory.read (Memory.store m c vs) a = Memory.read m a := by
  induction vs generalizing m c with
  | nil => rfl
  | cons v vs ih =>
    have hhead : a ≠ c.toNat := by simpa using h 0 (Nat.succ_pos _)
    rw [Memory.store, ih, Memory.read_write_ne m v hhead]
    intro j hj
    rw [add_one_add_ofNat]
    exact h (j + 1) (Nat.succ_lt_succ hj)

/-- The buffer holds the bytes in order. -/
theorem Memory.read_store {m : Memory} {c : Half} {vs : List Byte} (hm : Memory.wf m = true) (hlen : vs.length < 65536)
    {j : Nat} {v : Byte} (hj : vs[j]? = some v) :
    Memory.read (Memory.store m c vs) (c + BitVec.ofNat 16 j).toNat = v := by
  induction vs generalizing m c j with
  | nil => simp at hj
  | cons u vs ih =>
    rw [List.length_cons] at hlen
    rw [Memory.store]
    cases j with
    | zero =>
      obtain rfl : u = v := by simpa using hj
      rw [BitVec.add_zero, Memory.read_store_ne, Memory.read_write_same hm]
      intro i hi he
      rw [add_one_add_ofNat] at he
      exact ofNat_succ_ne_zero (n := i) (by omega) (by simpa using BitVec.eq_of_toNat_eq he)
    | succ j =>
      rw [← add_one_add_ofNat]
      exact ih (Memory.write_wf hm c.isLt) (by omega) (by simpa using hj)

/-! ### The phase of the bytes -/

section Bytes

variable {s : State} {d : DescRef} {k : Kind} {a : Byte} {n : Nat} {c : Half} {cont : Option ContRef}
  {more : List Byte} {rest : List Turn}

theorem admits_next {cfg : Config} (h : ∀ j, j < n + 1 → admits cfg (c + BitVec.ofNat 16 j) = true) :
    admits cfg c = true ∧ ∀ j, j < n → admits cfg (c + 1 + BitVec.ofNat 16 j) = true := by
  refine ⟨by simpa using h 0 n.succ_pos, fun j hj => ?_⟩
  rw [add_one_add_ofNat]
  exact h (j + 1) (Nat.succ_lt_succ hj)

/-- `n` bytes sent, each acknowledged. -/
theorem sent_bytes_turns (h : s.Deciding d (.underWay a k cont n c) .w) (hdir : dirOf k = some .w) (hn : n < 65536)
    (hadm : ∀ j, j < n → admits s.cfg (c + BitVec.ofNat 16 j) = true)
    (hdraw : ∀ j, j < n → ∃ b, s.draws[2 * j + 1]? = some b ∧ b.getLsbD 0 = false)
    (ha : s.agenda = roundTurns (2 * n) ++ rest) :
    ∃ t, Progress s t (4 * n) (2 * n) (sentEvents s.hmem c n) ∧
      t.Deciding d (.underWay a k cont 0 (c + BitVec.ofNat 16 n)) .w ∧ t.hmem = s.hmem := by
  induction n generalizing s c with
  | zero => exact ⟨s, .refl h.running, by simpa using h, rfl⟩
  | succ n ih =>
    obtain ⟨hhead, htail⟩ := admits_next hadm
    obtain ⟨t, hprog, hdec, hm⟩ := sent_byte_turns (rest := roundTurns (2 * n) ++ rest) h hdir hn hhead
      (hdraw 0 n.succ_pos) ha
    have hdraw' (j : Nat) (hj : j < n) : ∃ b, t.draws[2 * j + 1]? = some b ∧ b.getLsbD 0 = false := by
      rw [hprog.draws, List.getElem?_drop, Nat.add_comm]
      exact hdraw (j + 1) (Nat.succ_lt_succ hj)
    obtain ⟨u, hprog', hdec', hm'⟩ := ih hdec (Nat.lt_of_succ_lt hn) (hprog.cfg ▸ htail) hdraw'
      (hprog.agenda_of_append (taken := roundTurns 2) ha rfl)
    refine ⟨u, ?_, add_one_add_ofNat c n ▸ hdec', hm'.trans hm⟩
    rw [Nat.mul_succ, Nat.mul_succ, Nat.add_comm (4 * n), Nat.add_comm (2 * n)]
    exact hprog.trans (hm ▸ hprog')

/-- The bytes `vs` received and stored, the last answered with a NACK. -/
theorem received_bytes_turns {vs : List (Byte × Byte)} (h : s.Deciding d (.underWay a k cont vs.length c) .r)
    (hdir : dirOf k = some .r) (hsus : isSuspend k = false) (hn : vs.length < 65536)
    (hadm : ∀ j, j < vs.length → admits s.cfg (c + BitVec.ofNat 16 j) = true)
    (hdraw : s.draws = receiveDraws vs ++ more) (ha : s.agenda = roundTurns (2 * vs.length) ++ rest) :
    ∃ t, Progress s t (4 * vs.length) (2 * vs.length) (receivedEvents (vs.map Prod.fst)) ∧
      t.Deciding d (.underWay a k cont 0 (c + BitVec.ofNat 16 vs.length)) .r ∧
      t.hmem = Memory.store s.hmem c (vs.map Prod.fst) := by
  induction vs generalizing s c with
  | nil => exact ⟨s, .refl h.running, by simpa using h, rfl⟩
  | cons v vs ih =>
    obtain ⟨v, x⟩ := v
    obtain ⟨hhead, htail⟩ := admits_next hadm
    obtain ⟨t, hprog, hdec, hm⟩ := received_byte_turns (rest := roundTurns (2 * vs.length) ++ rest) h hdir hsus hn
      hhead hdraw ha
    obtain ⟨u, hprog', hdec', hm'⟩ := ih hdec (Nat.lt_of_succ_lt hn) (hprog.cfg ▸ htail)
      (by rw [hprog.draws, hdraw]; rfl) (hprog.agenda_of_append (taken := roundTurns 2) ha rfl)
    refine ⟨u, ?_, add_one_add_ofNat c vs.length ▸ hdec', hm'.trans (by rw [hm]; rfl)⟩
    have hlast : decide (vs.length = 0) = (vs.map Prod.fst).isEmpty := by cases vs <;> simp
    rw [hlast] at hprog
    rw [List.length_cons, Nat.mul_succ, Nat.mul_succ, Nat.add_comm (4 * _), Nat.add_comm (2 * _)]
    exact hprog.trans hprog'

end Bytes

/-! ### The whole transaction -/

/-- The schedule of a transaction of `n` bytes: the address, the bytes, the stop marker, and the step that stops. -/
theorem busTurns_split (n : Nat) (rest : List Turn) :
    busTurns (2 * n + 3) ++ rest =
      roundTurns 2 ++ (roundTurns (2 * n) ++ (roundTurns 1 ++ .engine :: rest)) := by
  rw [busTurns_eq, show 2 * n + 3 = 2 + (2 * n + 1) by omega, roundTurns_add, roundTurns_add]
  simp

/-- A ThenStop transaction whose address is acknowledged and whose phase of bytes runs to its end. -/
theorem thenStop_transaction {s : State} {d : DescRef} {k : Kind} {dir : Dir} {a : Byte} {n : Nat} {c c' : Half}
    {cont : Option ContRef} {m : Memory} {es : List BusEvent} {rest : List Turn} (hr : s.EngineReady .start)
    (hs : s.shift = none) (hbus : s.buscond = .idle ∨ s.buscond = .restartReady) (hl : s.live = some d)
    (hx : s.desc d = .underWay a k cont n c) (hdir : dirOf k = some dir) (hbit : addrDirBit a = dir.bit)
    (hsus : isSuspend k = false) (hres : isRestart k = false)
    (hdraw : ∃ b, s.draws[1]? = some b ∧ b.getLsbD 0 = false) (ha : s.agenda = busTurns (2 * n + 3) ++ rest)
    (hbytes : ∀ t, t.Deciding d (.underWay a k cont n c) dir → t.cfg = s.cfg → t.draws = s.draws.drop 2 →
      t.hmem = s.hmem → t.agenda = roundTurns (2 * n) ++ (roundTurns 1 ++ .engine :: rest) →
      ∃ u, Progress t u (4 * n) (2 * n) es ∧ u.Deciding d (.underWay a k cont 0 c') dir ∧ u.hmem = m) :
    ∃ t, Host.Core.run core (4 * n + 7) s = .next t ∧
      t.trace = s.trace ++ [if s.buscond = .idle then .start else .rstart, .tx (wireByte s.cfg a), .ackIn false] ++
        es ++ [.prepStop, .stop] ∧
      t.desc d = .underWay a k cont 0 c' ∧ t.hmem = m ∧ t.err = s.err ∧ t.StopYielded ∧ t.busy = s.busy ∧
      t.faults = [] ∧ t.agenda = rest := by
  rw [busTurns_split] at ha
  obtain ⟨t, haddr, hdec, hm⟩ := address_turns hr hs hbus hl hx hdir hbit hdraw ha
  have hag := haddr.agenda_of_append ha rfl
  obtain ⟨u, hphase, hdec', hm'⟩ := hbytes t hdec haddr.cfg haddr.draws hm hag
  have hag' := hphase.agenda_of_append hag (by rw [length_roundTurns]; omega)
  obtain ⟨v, hstop, hx', hyield, hm''⟩ := stop_turns hdec' hdir hsus hres hag'
  have hall := (haddr.trans hphase).trans hstop
  rw [show 4 + 4 * n + 3 = 4 * n + 7 by omega] at hall
  have hrest : v.agenda = rest := by rw [hstop.agenda, hag']; rfl
  exact ⟨v, hall.run, by rw [hall.trace]; simp, hx', hm''.trans hm', hall.err, hyield, hall.busy, hall.running.1, hrest⟩

/-- R127: the direction bit of a write address is 0 on the wire either way. -/
theorem wireByte_of_write {a : Byte} (cfg : Config) (h : a.getLsbD 0 = false) : wireByte cfg a = a := by
  cases hw : cfg.addrRwOnWire with
  | direction => simp only [wireByte, hw]
  | zero => simp only [wireByte, hw]; revert h; revert a; decide

theorem wireByte_eq_ite (cfg : Config) (a : Byte) :
    wireByte cfg a = if cfg.addrRwOnWire = .direction then a else a &&& 0xFE := by
  cases hw : cfg.addrRwOnWire <;> simp [wireByte, hw]

/-- Settles O59: the phase of the bytes sends them from the cursor. -/
theorem sendThenStopTransaction : Obligations.SendThenStopTransaction := by
  intro s d a n c cont rest hr hs hbus hl hn hx hbit hadm hdraw ha
  have hdraw' (j : Nat) (hj : j < n) : ∃ b, (s.draws.drop 2)[2 * j + 1]? = some b ∧ b.getLsbD 0 = false := by
    rw [List.getElem?_drop, Nat.add_comm]
    exact hdraw (j + 1) hj
  obtain ⟨t, hrun, htr, hdesc, hm, herr, hend⟩ := thenStop_transaction (dir := .w) hr hs hbus hl hx rfl hbit rfl rfl
    (hdraw 0 n.zero_le) ha fun t hdec hcfg hdraws hm hag =>
      hm ▸ sent_bytes_turns hdec rfl hn (hcfg ▸ hadm) (hdraws ▸ hdraw') hag
  rw [wireByte_of_write s.cfg hbit] at htr
  exact ⟨t, hrun, htr, hdesc, herr, hm, hend⟩

/-- Settles O60: the phase of the bytes stores them from the cursor. -/
theorem receiveThenStopTransaction : Obligations.ReceiveThenStopTransaction := by
  intro s d a vs c cont x y more rest hr hwf hs hbus hl hn hx hbit hadm hy hdraw ha
  obtain ⟨t, hrun, htr, hdesc, hm, hend⟩ := thenStop_transaction (dir := .r) hr hs hbus hl hx rfl hbit rfl rfl
    ⟨y, by rw [hdraw]; rfl, hy⟩ ha fun t hdec hcfg hdraws hm hag =>
      hm ▸ received_bytes_turns hdec rfl rfl hn (hcfg ▸ hadm) (by rw [hdraws, hdraw]; rfl) hag
  rw [wireByte_eq_ite] at htr
  refine ⟨t, hrun, htr, hdesc, ?_, ?_, hend⟩
  · intro j v hj
    rw [hm]
    exact Memory.read_store hwf (by simpa using hn) (by simp [hj])
  · intro i hi
    rw [hm]
    exact Memory.read_store_ne (by simpa using hi)

end Sys2Proof.Machine
end

section
/-! PROOF. What an engine step answers by the result of its act, and the results of the acts that the transactions above
do not meet: the faults, the yields, and the acknowledgement failure. -/

namespace Sys2Proof.Machine

/-! ### An engine step by the result of its act -/

section EngineStep

variable {s t : State} {i : Instr} {p : PState} {f : ModelFault}

theorem exec_of_act_ok (hi : i.stepState = some p) (hr : s.EngineReady p)
    (h : actOf i (s.setAsleep false) = .ok t) : exec i s = .next t := by
  rw [exec_of_stepState hi]
  exact engineStep_ok hr h

theorem exec_of_act_error (hi : i.stepState = some p) (hr : s.EngineReady p)
    (h : actOf i (s.setAsleep false) = .error f) : exec i s = .next (s.faulted i f) := by
  rw [exec_of_stepState hi, engineStep_error hr h, State.faulted, issuer_of_stepState hi]

/-- R131: an engine step that calls the decision after a positive acknowledgement ends as the decision does. -/
theorem exec_of_afterAck_ok (hr : s.EngineReady p) (hpos : s.PositiveAck i p)
    (h : afterAck (s.setAsleep false) = .ok t) : exec i s = .next t := by
  obtain ⟨hi, hact⟩ := act_of_positiveAck (s := s.setAsleep false) hpos
  exact exec_of_act_ok hi hr (hact.trans h)

theorem exec_of_afterAck_error (hr : s.EngineReady p) (hpos : s.PositiveAck i p)
    (h : afterAck (s.setAsleep false) = .error f) : exec i s = .next (s.faulted i f) := by
  obtain ⟨hi, hact⟩ := act_of_positiveAck (s := s.setAsleep false) hpos
  exact exec_of_act_error hi hr (hact.trans h)

/-- R126: without signalling the engine has no step. -/
theorem exec_of_sigEn_false (hi : i.stepState ≠ none) (hr : s.Running) (hen : s.sigEn = false) :
    exec i s = .fault .engineNotEnabled := by
  obtain ⟨p, hp⟩ := Option.ne_none_iff_exists'.mp hi
  simp [exec_of_stepState hp, engineStep, State.engineStop, halted_of_running hr, State.signalled, hen]

end EngineStep

/-! ### Kinds and directions (R14) -/

theorem dirOf_eq_none {k : Kind} : dirOf k = none ↔ k = .idle ∨ k = .reserved := by
  cases k <;> simp [dirOf]

theorem isSuspend_iff {k : Kind} : isSuspend k = true ↔ k = .sendThenSuspend ∨ k = .receiveThenSuspend := by
  cases k <;> simp [isSuspend]

theorem isRestart_iff {k : Kind} : isRestart k = true ↔ k = .sendThenRestart ∨ k = .receiveThenRestart := by
  cases k <;> simp [isRestart]

theorem bit_eq_decide (dir : Dir) : dir.bit = decide (dir = .r) := by cases dir <;> rfl

/-- R137: the last byte of a kind that does not suspend. -/
theorem lastByteNack_eq_decide (k : Kind) (r : Half) :
    lastByteNack k r = decide (r = 1 ∧ k ≠ .sendThenSuspend ∧ k ≠ .receiveThenSuspend) := by
  have hsus : (!isSuspend k) = decide (k ≠ .sendThenSuspend ∧ k ≠ .receiveThenSuspend) := by cases k <;> rfl
  simp only [lastByteNack, hsus, sub_eq_zero, Bool.decide_and]

/-! ### Reads that fault -/

@[simp] theorem readReg_none {α : Type} (reg : RegName) :
    readReg reg (none : Option α) = .error (.unwrittenRead reg) := rfl

section Acts

variable {s : State} {d : DescRef} {k : Kind} {dir g : Dir} {a b : Byte} {r c : Half}

theorem kindDir_of_undirected (h : dirOf k = none) : kindDir k = .error (.illFormedDescriptor .kind) := by
  simp [kindDir, h]

theorem checkDir_of_ne (hg : s.ghostDir = some g) (hne : dir ≠ g) : s.checkDir dir = .error .directionChanged := by
  simp [State.checkDir, hg, hne]

theorem readRem_of_rem (h : (s.desc d).rem = some r) : s.readRem d = .ok r := by simp [State.readRem, h]

theorem readCur_of_cur (h : (s.desc d).cur = some c) : s.readCur d = .ok c := by simp [State.readCur, h]

/-! ### START (R127) -/

theorem actStart_without_live (hl : s.live = none) : actStart s = .error .noLiveDescriptor := by
  simp [actStart, State.liveRef, hl]

theorem actStart_kind_unwritten (hl : s.live = some d) (hk : (s.desc d).kind = none) :
    actStart s = .error (.unwrittenRead (.descField d .kind)) := by
  simp [actStart, liveRef_of_live hl, State.readKind, hk]

theorem actStart_undirected (hl : s.live = some d) (hk : (s.desc d).kind = some k) (hdir : dirOf k = none) :
    actStart s = .error (.illFormedDescriptor .kind) := by
  simp [actStart, liveRef_of_live hl, readKind_of_kind hk, kindDir_of_undirected hdir]

theorem actStart_addr_unwritten (hl : s.live = some d) (hk : (s.desc d).kind = some k) (hdir : dirOf k = some dir)
    (ha : (s.desc d).addr = none) : actStart s = .error (.unwrittenRead (.descField d .addr)) := by
  simp [actStart, liveRef_of_live hl, readKind_of_kind hk, kindDir_of_dirOf hdir, State.readAddr, ha]

theorem actStart_misdirected (hl : s.live = some d) (hk : (s.desc d).kind = some k) (hdir : dirOf k = some dir)
    (ha : (s.desc d).addr = some a) (hbit : addrDirBit a ≠ dir.bit) :
    actStart s = .error (.illFormedDescriptor .direction) := by
  simp [actStart, liveRef_of_live hl, readKind_of_kind hk, kindDir_of_dirOf hdir, State.readAddr, ha, hbit]

/-! ### SEND_BYTE (R133) -/

theorem actSendByte_underflow (hl : s.live = some d) (hr : (s.desc d).rem = some 0) :
    actSendByte s = .error .remainingUnderflow := by
  simp [actSendByte, liveRef_of_live hl, readRem_of_rem hr]

theorem actSendByte_cur_unwritten (hl : s.live = some d) (hr : (s.desc d).rem = some r) (h0 : r ≠ 0)
    (hc : (s.desc d).cur = none) : actSendByte s = .error (.unwrittenRead (.descField d .cur)) := by
  simp only [actSendByte, liveRef_of_live hl, readRem_of_rem hr, if_neg h0, State.readCur, hc, readReg_none, ok_bind,
    error_bind]

theorem actSendByte_not_admitted (hl : s.live = some d) (hr : (s.desc d).rem = some r) (h0 : r ≠ 0)
    (hc : (s.desc d).cur = some c) (hadm : admits s.cfg c = false) :
    actSendByte s = .error (.bufferNotAdmitted c) := by
  simp only [actSendByte, liveRef_of_live hl, readRem_of_rem hr, if_neg h0, readCur_of_cur hc, State.memRead, hadm,
    Bool.false_eq_true, if_false, ok_bind, error_bind]

/-! ### PREPARE_STOP (R139, R140) -/

theorem actPrepareStop_undirected (hl : s.live = some d) (hk : (s.desc d).kind = some k) (hdir : dirOf k = none) :
    actPrepareStop s = .error (.illFormedDescriptor .kind) := by
  simp [actPrepareStop, liveRef_of_live hl, readKind_of_kind hk, kindDir_of_undirected hdir]

theorem actPrepareStop_restarts (hl : s.live = some d) (hk : (s.desc d).kind = some k) (hdir : dirOf k = some dir)
    (hres : isRestart k = true) (hn : s.nackf = false) (hs : s.shift = none) :
    actPrepareStop s = .ok
      { s with shift := some (.prep false), sigPend := false, event := true, sigEn := false, pstate := .start } := by
  obtain ⟨t, ht⟩ := actPrepareStop_succeeds hl hk hdir hs
  obtain ⟨e, k', -, hl', hk', -, -, ⟨-, -, rfl⟩ | ⟨hstop, -⟩⟩ := actPrepareStop_ok ht
  · exact ht
  · cases hl.symm.trans hl'
    cases hk.symm.trans hk'
    simp [hres, hn] at hstop

/-- A failed transaction prepares a true stop whatever its kind. -/
theorem actPrepareStop_stops (hl : s.live = some d) (hk : (s.desc d).kind = some k) (hdir : dirOf k = some dir)
    (hstop : isRestart k = false ∨ s.nackf = true) (hs : s.shift = none) :
    actPrepareStop s = .ok { s with shift := some (.prep true), sigPend := false, pstate := .stop } := by
  obtain ⟨t, ht⟩ := actPrepareStop_succeeds hl hk hdir hs
  obtain ⟨e, k', -, hl', hk', -, -, ⟨hres, hn, -⟩ | ⟨-, rfl⟩⟩ := actPrepareStop_ok ht
  · cases hl.symm.trans hl'
    cases hk.symm.trans hk'
    simp [hres, hn] at hstop
  · exact ht

/-! ### The acknowledgement failure (R129, R130, R135) -/

theorem nackFail_eq (code : BitVec 4) (hl : s.live = some d) (hk : (s.desc d).kind = some k)
    (hdir : dirOf k = some dir) (hs : s.shift = none) :
    nackFail code s = .ok
      { s with err := code, nackf := true, shift := some (.prep true), sigPend := false, pstate := .stop } := by
  obtain ⟨t, ht⟩ := nackFail_succeeds code hl hk hdir hs
  obtain ⟨-, -, -, -, -, -, -, rfl⟩ := nackFail_ok ht
  exact ht

theorem actAddrAckCheck_nack (hb : s.sr = some b) (hnack : b.getLsbD 0 = true) :
    actAddrAckCheck s = nackFail errNackAddr s := by
  simp only [actAddrAckCheck, readAckBit_of_sr hb, ok_bind, hnack, if_true]

theorem actDataAckCheck_nack (hb : s.sr = some b) (hnack : b.getLsbD 0 = true) :
    actDataAckCheck s = nackFail errNackData s := by
  simp only [actDataAckCheck, readAckBit_of_sr hb, ok_bind, hnack, if_true]

/-! ### The decision after a positive acknowledgement (R131, R132) -/

theorem afterAck_kind_unwritten (hl : s.live = some d) (hk : (s.desc d).kind = none) :
    afterAck s = .error (.unwrittenRead (.descField d .kind)) := by
  simp [afterAck, liveRef_of_live hl, State.readKind, hk]

theorem afterAck_undirected (hl : s.live = some d) (hk : (s.desc d).kind = some k) (hdir : dirOf k = none) :
    afterAck s = .error (.illFormedDescriptor .kind) := by
  simp [afterAck, liveRef_of_live hl, readKind_of_kind hk, kindDir_of_undirected hdir]

theorem afterAck_redirected (hl : s.live = some d) (hk : (s.desc d).kind = some k) (hdir : dirOf k = some dir)
    (hg : s.ghostDir = some g) (hne : dir ≠ g) : afterAck s = .error .directionChanged := by
  simp [afterAck, liveRef_of_live hl, readKind_of_kind hk, kindDir_of_dirOf hdir, checkDir_of_ne hg hne]

theorem afterAck_rem_unwritten (hl : s.live = some d) (hk : (s.desc d).kind = some k) (hdir : dirOf k = some dir)
    (hg : s.ghostDir = some dir) (hr : (s.desc d).rem = none) :
    afterAck s = .error (.unwrittenRead (.descField d .rem)) := by
  simp [afterAck, liveRef_of_live hl, readKind_of_kind hk, kindDir_of_dirOf hdir, checkDir_of_ghostDir hg,
    State.readRem, hr]

theorem afterAck_suspends (hl : s.live = some d) (hk : (s.desc d).kind = some k) (hdir : dirOf k = some dir)
    (hg : s.ghostDir = some dir) (hr : (s.desc d).rem = some 0) (hsus : isSuspend k = true) :
    afterAck s = .ok (suspendYield s) := by
  simp [afterAck, liveRef_of_live hl, readKind_of_kind hk, kindDir_of_dirOf hdir, checkDir_of_ghostDir hg,
    readRem_of_rem hr, hsus]

/-! ### RECEIVE_STORE (R137) -/

theorem actReceiveStore_rem_unwritten (hl : s.live = some d) (hr : (s.desc d).rem = none) :
    actReceiveStore s = .error (.unwrittenRead (.descField d .rem)) := by
  simp [actReceiveStore, liveRef_of_live hl, State.readRem, hr]

theorem actReceiveStore_underflow (hl : s.live = some d) (hr : (s.desc d).rem = some 0) :
    actReceiveStore s = .error .remainingUnderflow := by
  simp [actReceiveStore, liveRef_of_live hl, readRem_of_rem hr]

theorem actReceiveStore_kind_unwritten (hl : s.live = some d) (hr : (s.desc d).rem = some r) (h0 : r ≠ 0)
    (hk : (s.desc d).kind = none) : actReceiveStore s = .error (.unwrittenRead (.descField d .kind)) := by
  simp only [actReceiveStore, liveRef_of_live hl, readRem_of_rem hr, if_neg h0, State.readKind, hk, readReg_none,
    ok_bind, error_bind]

theorem actReceiveStore_undirected (hl : s.live = some d) (hr : (s.desc d).rem = some r) (h0 : r ≠ 0)
    (hk : (s.desc d).kind = some k) (hdir : dirOf k = none) :
    actReceiveStore s = .error (.illFormedDescriptor .kind) := by
  simp only [actReceiveStore, liveRef_of_live hl, readRem_of_rem hr, if_neg h0, readKind_of_kind hk,
    kindDir_of_undirected hdir, ok_bind, error_bind]

theorem actReceiveStore_redirected (hl : s.live = some d) (hr : (s.desc d).rem = some r) (h0 : r ≠ 0)
    (hk : (s.desc d).kind = some k) (hdir : dirOf k = some dir) (hg : s.ghostDir = some g) (hne : dir ≠ g) :
    actReceiveStore s = .error .directionChanged := by
  simp only [actReceiveStore, liveRef_of_live hl, readRem_of_rem hr, if_neg h0, readKind_of_kind hk,
    kindDir_of_dirOf hdir, checkDir_of_ne hg hne, ok_bind, error_bind]

theorem actReceiveStore_sr_unwritten (hl : s.live = some d) (hr : (s.desc d).rem = some r) (h0 : r ≠ 0)
    (hk : (s.desc d).kind = some k) (hdir : dirOf k = some dir) (hg : s.ghostDir = some dir) (hb : s.sr = none) :
    actReceiveStore s = .error (.unwrittenRead .sr) := by
  simp only [actReceiveStore, liveRef_of_live hl, readRem_of_rem hr, if_neg h0, readKind_of_kind hk,
    kindDir_of_dirOf hdir, checkDir_of_ghostDir hg, State.readReceivedByte, hb, readReg_none, ok_bind, error_bind]

theorem actReceiveStore_cur_unwritten (hl : s.live = some d) (hr : (s.desc d).rem = some r) (h0 : r ≠ 0)
    (hk : (s.desc d).kind = some k) (hdir : dirOf k = some dir) (hg : s.ghostDir = some dir) (hb : s.sr = some b)
    (hc : (s.desc d).cur = none) : actReceiveStore s = .error (.unwrittenRead (.descField d .cur)) := by
  simp only [actReceiveStore, liveRef_of_live hl, readRem_of_rem hr, if_neg h0, readKind_of_kind hk,
    kindDir_of_dirOf hdir, checkDir_of_ghostDir hg, readReceivedByte_of_sr hb, State.readCur, hc, readReg_none,
    ok_bind, error_bind]

theorem actReceiveStore_not_admitted (hl : s.live = some d) (hr : (s.desc d).rem = some r) (h0 : r ≠ 0)
    (hk : (s.desc d).kind = some k) (hdir : dirOf k = some dir) (hg : s.ghostDir = some dir) (hb : s.sr = some b)
    (hc : (s.desc d).cur = some c) (hadm : admits s.cfg c = false) :
    actReceiveStore s = .error (.bufferNotAdmitted c) := by
  simp only [actReceiveStore, liveRef_of_live hl, readRem_of_rem hr, if_neg h0, readKind_of_kind hk,
    kindDir_of_dirOf hdir, checkDir_of_ghostDir hg, readReceivedByte_of_sr hb, readCur_of_cur hc, State.memWrite,
    hadm, Bool.false_eq_true, if_false, ok_bind, error_bind]

/-! ### STOP (R141) -/

theorem actStop_of_stopReady (hb : s.buscond = .stopReady) :
    actStop s = .ok
      { s with trace := s.trace ++ [.stop], buscond := .idle, event := true, sigEn := false, pstate := .start } := by
  obtain ⟨t, ht⟩ := actStop_succeeds hb
  obtain ⟨-, rfl⟩ := actStop_ok ht
  exact ht

theorem actStop_violation (hb : s.buscond ≠ .stopReady) : actStop s = .error (.busConditionViolation .stop) := by
  simp [actStop, issueStop_violation hb]

/-! ### An acknowledgement bit over a shift in flight (R128, R134) -/

theorem actAddrAckPrep_overlap (hs : s.shift ≠ none) : actAddrAckPrep s = .error (.shiftOverlap .rx1) := by
  simp [actAddrAckPrep, arm_overlap hs]

theorem actDataAckPrep_overlap (hs : s.shift ≠ none) : actDataAckPrep s = .error (.shiftOverlap .rx1) := by
  simp [actDataAckPrep, arm_overlap hs]

end Acts

end Sys2Proof.Machine
end

section
/-! PROOF. Settles O16 to O29: each act of the engine, its effect with its frame, and its faults in the order of its
reads. -/

namespace Sys2Proof.Machine

/-! ### START (R127) -/

/-- Settles O16: nothing hinders the act. -/
theorem startActIssuesStartAndAddress : Obligations.StartActIssuesStartAndAddress := by
  intro s d k dir a hr hs hl hk ha hdir hbit hbus
  rw [← wireByte_eq_ite]
  exact exec_of_act_ok rfl hr
    (actStart_eq (s := s.setAsleep false) hl hk hdir ha (hbit.trans (bit_eq_decide dir).symm) hbus hs)

/-- Settles O17: the checks of the act in their order. -/
theorem startActChecksItsDescriptor : Obligations.StartActChecksItsDescriptor := by
  intro s hr
  have faults {f : ModelFault} (h : actStart (s.setAsleep false) = .error f) :
      exec .stepStart s = .next (s.faulted .stepStart f) := exec_of_act_error rfl hr h
  refine ⟨fun hl => faults (actStart_without_live hl), fun d hl =>
    ⟨fun hk => faults (actStart_kind_unwritten hl hk), ?_, fun k dir hk hdir =>
      ⟨fun ha => faults (actStart_addr_unwritten hl hk hdir ha), fun a ha hbit =>
        faults (actStart_misdirected hl hk hdir ha (bit_eq_decide dir ▸ hbit))⟩⟩⟩
  rintro (hk | hk)
  · exact faults (actStart_undirected hl hk rfl)
  · exact faults (actStart_undirected hl hk rfl)

/-! ### The acknowledgement of a byte sent (R128 to R130, R134, R135) -/

/-- Settles O18: both acts are one arming of `RX1`. -/
theorem ackPreparationArmsTheAckBit : Obligations.AckPreparationArmsTheAckBit := by
  intro s
  exact ⟨fun hr => ⟨fun hs => exec_of_act_ok rfl hr (actAddrAckPrep_eq (s := s.setAsleep false) hs),
      fun hs => exec_of_act_error rfl hr (actAddrAckPrep_overlap hs)⟩,
    fun hr => ⟨fun hs => exec_of_act_ok rfl hr (actDataAckPrep_eq (s := s.setAsleep false) hs),
      fun hs => exec_of_act_error rfl hr (actDataAckPrep_overlap hs)⟩⟩

/-- Settles O19: either check goes on to the failure with its own code. -/
theorem nackPreparesATrueStop : Obligations.NackPreparesATrueStop := by
  intro s d k b hs hb hnack hl hk hidle hreserved
  obtain ⟨dir, hdir⟩ := Option.ne_none_iff_exists'.mp fun h => (dirOf_eq_none.mp h).elim hidle hreserved
  have failed (code : BitVec 4) := nackFail_eq (s := s.setAsleep false) code hl hk hdir hs
  have haddr := actAddrAckCheck_nack (s := s.setAsleep false) hb hnack
  have hdata := actDataAckCheck_nack (s := s.setAsleep false) hb hnack
  exact ⟨fun hr => exec_of_act_ok rfl hr (haddr.trans (failed errNackAddr)),
    fun hr => exec_of_act_ok rfl hr (hdata.trans (failed errNackData))⟩

/-! ### The decision after a positive acknowledgement (R131 to R133, R136, R139, R140) -/

/-- Settles O20: the faults of the decision, then those of SEND_BYTE, to which it goes on. -/
theorem ackWithBytesLeftSendsTheNext : Obligations.AckWithBytesLeftSendsTheNext := by
  intro s i p d hr hpos hl
  have faults {f : ModelFault} (h : afterAck (s.setAsleep false) = .error f) :
      exec i s = .next (s.faulted i f) := exec_of_afterAck_error hr hpos h
  refine ⟨fun hk => faults (afterAck_kind_unwritten hl hk), fun k dir hk hdir hg =>
    ⟨fun hrem => faults (afterAck_rem_unwritten hl hk hdir hg hrem), fun r hrem h0 hw => ?_⟩⟩
  obtain ⟨-, hsend, -⟩ := afterAck_eq (s := s.setAsleep false) hl hk hdir hg hrem
  have hgoto := hsend h0 hw
  exact ⟨fun hc => faults (hgoto.trans (actSendByte_cur_unwritten hl hrem h0 hc)), fun c hc =>
    ⟨fun hadm => faults (hgoto.trans (actSendByte_not_admitted hl hrem h0 hc hadm)), fun hadm hs =>
      exec_of_afterAck_ok hr hpos (hgoto.trans (actSendByte_eq hl hrem h0 hc hadm hs))⟩⟩

/-- Settles O21: the decision goes on to RECEIVE_BYTE. -/
theorem ackWithBytesLeftReceivesTheNext : Obligations.AckWithBytesLeftReceivesTheNext := by
  intro s i p d k r hr hpos hs hl hk hdir hg hrem h0
  obtain ⟨-, -, hreceive⟩ := afterAck_eq (s := s.setAsleep false) hl hk hdir hg hrem
  exact exec_of_afterAck_ok hr hpos ((hreceive h0 rfl).trans (actReceiveByte_eq hs))

/-- Settles O22: the decision is the suspend-yield. -/
theorem ackAtTheEndSuspends : Obligations.AckAtTheEndSuspends := by
  intro s i p d k dir hr hpos hl hk hsus hdir hg hrem
  exact exec_of_afterAck_ok hr hpos
    (afterAck_suspends (s := s.setAsleep false) hl hk hdir hg hrem (isSuspend_iff.mpr hsus))

/-- Settles O23: the decision goes on to PREPARE_STOP. -/
theorem ackAtTheEndRestartsOrStops : Obligations.AckAtTheEndRestartsOrStops := by
  intro s i p d k dir hr hpos hs hl hk hdir hg hrem
  obtain ⟨hstop, -, -⟩ := afterAck_eq (s := s.setAsleep false) hl hk hdir hg hrem
  constructor
  · intro hres hn
    have hact := actPrepareStop_restarts (s := (s.setAsleep false).setPstate .prepareStop) hl hk hdir
      (isRestart_iff.mpr hres) hn hs
    refine exec_of_afterAck_ok hr hpos ((hstop rfl ?_).trans hact)
    obtain rfl | rfl := hres <;> rfl
  · intro hkind
    have hfinal : isSuspend k = false ∧ (isRestart k = false ∨ s.nackf = true) := by
      obtain rfl | rfl | ⟨rfl | rfl, hn⟩ := hkind
      · exact ⟨rfl, .inl rfl⟩
      · exact ⟨rfl, .inl rfl⟩
      · exact ⟨rfl, .inr hn⟩
      · exact ⟨rfl, .inr hn⟩
    obtain ⟨hsus, hfinal⟩ := hfinal
    have hact := actPrepareStop_stops (s := (s.setAsleep false).setPstate .prepareStop) hl hk hdir hfinal hs
    exact exec_of_afterAck_ok hr hpos ((hstop rfl hsus).trans hact)

/-- Settles O24: the decision and RECEIVE_STORE make the same checks of the kind. -/
theorem changedDirectionFaults : Obligations.ChangedDirectionFaults := by
  intro s i p d k hr hl hk hact
  obtain hpos | ⟨rfl, rfl, r, hrem, h0⟩ := hact
  · exact ⟨fun hkind => exec_of_afterAck_error hr hpos (afterAck_undirected hl hk (dirOf_eq_none.mpr hkind)),
      fun dir g hdir hg hne => exec_of_afterAck_error hr hpos (afterAck_redirected hl hk hdir hg hne)⟩
  · exact ⟨fun hkind =>
        exec_of_act_error rfl hr (actReceiveStore_undirected hl hrem h0 hk (dirOf_eq_none.mpr hkind)),
      fun dir g hdir hg hne => exec_of_act_error rfl hr (actReceiveStore_redirected hl hrem h0 hk hdir hg hne)⟩

/-! ### SEND_BYTE, RECEIVE_BYTE and PREPARE_STOP by themselves (R133, R136, R139) -/

/-- The cursor wraps at the end of the address space (R65). -/
theorem add_one_eq_wrap (c : Half) : c + 1 = if c = 0xFFFF then 0 else c + 1 := by
  split
  · next h => subst h; rfl
  · rfl

/-- Settles O25: the act's effect, and its two faults. -/
theorem sendByteActSendsTheCursorsByte : Obligations.SendByteActSendsTheCursorsByte := by
  intro s d r c hr hs hl hrem hc
  rw [← add_one_eq_wrap]
  refine ⟨fun h0 hadm => exec_of_act_ok rfl hr (actSendByte_eq (s := s.setAsleep false) hl hrem h0 hc hadm hs),
    fun h0 hadm => exec_of_act_error rfl hr (actSendByte_not_admitted hl hrem h0 hc hadm), ?_⟩
  rintro rfl
  exact exec_of_act_error rfl hr (actSendByte_underflow hl hrem)

/-- Settles O26: PREPARE_STOP by the kind and `NACKF`. -/
theorem receiveByteAndPrepareStopActs : Obligations.ReceiveByteAndPrepareStopActs := by
  intro s hs
  refine ⟨fun hr => exec_of_act_ok rfl hr (actReceiveByte_eq (s := s.setAsleep false) hs), fun d k hr hl hk =>
    ⟨fun hres hn => ?_, fun hidle hreserved hstop => ?_, fun hkind =>
      exec_of_act_error rfl hr (actPrepareStop_undirected hl hk (dirOf_eq_none.mpr hkind))⟩⟩
  · obtain ⟨dir, hdir⟩ : ∃ dir, dirOf k = some dir := by obtain rfl | rfl := hres <;> exact ⟨_, rfl⟩
    exact exec_of_act_ok rfl hr
      (actPrepareStop_restarts (s := s.setAsleep false) hl hk hdir (isRestart_iff.mpr hres) hn hs)
  · obtain ⟨dir, hdir⟩ := Option.ne_none_iff_exists'.mp fun h => (dirOf_eq_none.mp h).elim hidle hreserved
    have hfinal : isRestart k = false ∨ s.nackf = true :=
      hstop.symm.imp_left fun h => Bool.eq_false_iff.mpr fun hres => (isRestart_iff.mp hres).elim h.1 h.2
    exact exec_of_act_ok rfl hr (actPrepareStop_stops (s := s.setAsleep false) hl hk hdir hfinal hs)

/-! ### RECEIVE_STORE (R137) -/

/-- Settles O27: the memory left is one write at the cursor. -/
theorem receiveStoreStoresAndAcknowledges : Obligations.ReceiveStoreStoresAndAcknowledges := by
  intro s d k dir r c b hr hwf hs hl hrem h0 hk hdir hg hb hc hadm
  rw [← lastByteNack_eq_decide]
  exact ⟨_, exec_of_act_ok rfl hr (actReceiveStore_eq (s := s.setAsleep false) hl hk hdir hg hrem h0 hb hc hadm hs),
    Memory.read_write_same hwf, fun a ha => Memory.read_write_ne s.hmem b ha⟩

/-- Settles O28: the reads of the act in their order. -/
theorem receiveStoreFaults : Obligations.ReceiveStoreFaults := by
  intro s d hr hl
  have faults {f : ModelFault} (h : actReceiveStore (s.setAsleep false) = .error f) :
      exec .stepReceiveStore s = .next (s.faulted .stepReceiveStore f) := exec_of_act_error rfl hr h
  exact ⟨fun hrem => faults (actReceiveStore_rem_unwritten hl hrem),
    fun hrem => faults (actReceiveStore_underflow hl hrem), fun r hrem h0 =>
    ⟨fun hk => faults (actReceiveStore_kind_unwritten hl hrem h0 hk), fun k dir hk hdir hg =>
      ⟨fun hb => faults (actReceiveStore_sr_unwritten hl hrem h0 hk hdir hg hb), fun b hb =>
        ⟨fun hc => faults (actReceiveStore_cur_unwritten hl hrem h0 hk hdir hg hb hc),
          fun c hc hadm => faults (actReceiveStore_not_admitted hl hrem h0 hk hdir hg hb hc hadm)⟩⟩⟩⟩

/-! ### STOP (R141) -/

/-- Settles O29: the stop-yield, or the violation. -/
theorem stopActYields : Obligations.StopActYields := by
  intro s hr
  exact ⟨fun hb => exec_of_act_ok rfl hr (actStop_of_stopReady (s := s.setAsleep false) hb),
    fun hb => exec_of_act_error rfl hr (actStop_violation hb)⟩

end Sys2Proof.Machine
end

section
/-! PROOF. Settles O30 and O43: how an engine step ends, and the wake-up that a check of the idle loop loses. -/

namespace Sys2Proof.Machine

/-! ### How an engine step ends (R143) -/

/-- An act arms a shift from none and clears the pending flag, or disables signalling. -/
theorem ActEnd.armed_or_yielded {i : Instr} {s t : State} (h : ActEnd i s t) :
    (s.shift = none ∧ t.shift ≠ none ∧ t.sigPend = false) ∨ t.sigEn = false := by
  cases h with
  | suspended | restarted | stopped => rename_i ht; subst ht; exact .inr rfl
  | started | ackPrep | nacked | stopping | sent | receiving | stored =>
    rename_i hs ht
    subst ht
    exact .inl ⟨hs, nofun, rfl⟩

/-- Settles O30: a next state without a record is the end of an act. -/
theorem engineStepEndsArmedOrYielded : Obligations.EngineStepEndsArmedOrYielded := by
  intro s t i hi h hf
  obtain ⟨p, hp⟩ := Option.ne_none_iff_exists'.mp hi
  obtain ⟨-, ⟨f, rfl⟩ | hend⟩ := engine_next hp h
  · exact absurd hf nofun
  · exact hend.armed_or_yielded

/-! ### The lost wake-up (R178, R226) -/

/-- R178: with an event pending, LPM_WAIT puts the foreground to sleep unless its check is atomic. -/
theorem exec_lpmWait_of_event {s : State} (hr : s.ForegroundReady) (he : s.event = true) :
    exec .lpmWait s = .next (s.setAsleep !s.cfg.idleCheckAtomic) := by
  have hawake := hr.2
  simp only [exec, execLpmWait, he, Bool.and_true]
  cases s.cfg.idleCheckAtomic with
  | true => exact (foregroundStep_ok hr).trans (by rw [Bool.not_true, ← hawake]; rfl)
  | false => exact foregroundStep_ok hr

/-- R240: where the foreground sleeps, signalling is disabled and nothing is in flight, a schedule without a stimulus
hangs. -/
theorem hung_of_asleep {s : State} (hr : s.Running) (ha : s.asleep = true) (hen : s.sigEn = false)
    (hs : s.shift = none) (henv : .environment ∉ s.agenda) : s.Hung :=
  ⟨hr, fun ⟨_, ⟨hawake, _⟩, _⟩ => by simp [ha] at hawake, by simp [State.signalled, hen], fun h => absurd hs h,
    fun _ => henv, fun h => by simp [ha] at h⟩

/-- Settles O43: the stop-yield raises the event before the foreground waits. -/
theorem lostWakeUpNeedsANonAtomicIdleCheck : Obligations.LostWakeUpNeedsANonAtomicIdleCheck := by
  intro s hr hs hb
  obtain ⟨hyield, -⟩ := stopActYields s hr
  have hrun := hr.1
  refine ⟨_, _, hyield hb, exec_lpmWait_of_event ⟨hrun, rfl⟩ rfl, rfl, rfl, fun i hi => exec_of_sigEn_false hi hrun rfl,
    exec_shiftComplete_of_none hrun hs, fun hatomic henv => hung_of_asleep hrun ?_ rfl hs henv⟩
  exact congrArg (! ·) hatomic

end Sys2Proof.Machine
end

section
/-! PROOF. Settles O58: the rounds of a transaction whose address the slave does not acknowledge. -/

namespace Sys2Proof.Machine

section Rounds

variable {s t : State} {es : List BusEvent} {i : Instr} {p q : PState} {op : ShiftOp} {rest : List Turn} {d : DescRef}
  {x : Desc} {k : Kind} {dir : Dir} {a b v : Byte} {more : List Byte}

/-- R126: the engine's turn takes the act of `PSTATE`. -/
theorem step_of_act (hi : i.stepState = some p) (hr : s.EngineReady p) (ha : s.agenda = .engine :: rest)
    (hact : actOf i ((s.setAgenda rest).setAsleep false) = .ok t) : step s = .next t := by
  obtain ⟨hrun, hen, hpend, rfl⟩ := hr
  rw [step_of_runs hrun ha (.engine i (by simp [State.signalled, hen, hpend]) (stepInstr_of_stepState hi))]
  exact exec_of_act_ok hi ⟨hrun, hen, hpend, rfl⟩ hact

/-- R112, R126: an engine step that arms a shift, and its completion. -/
theorem run_round (hi : i.stepState = some p) (hr : s.EngineReady p) (ha : s.agenda = .engine :: .shifter :: rest)
    (hact : actOf i ((s.setAgenda (.shifter :: rest)).setAsleep false) = .ok t) (hop : t.shift = some op) :
    Host.Core.run core 2 s = .next ((t.setAgenda rest).completeShift op) := by
  have hcarries := (act_end hi hact).carries
  have hrun := hcarries.running hr.1
  have hshift : step t = .next ((t.setAgenda rest).completeShift op) :=
    (step_of_runs hrun hcarries.agenda .shifter).trans (exec_shiftComplete_of_shift hrun hop)
  exact run_succ (step_of_act hi hr ha hact) (run_succ hshift rfl)

/-- A round leaves every descriptor as its act left it. -/
theorem Progress.round_descs (hi : i.stepState = some p) (hr : s.EngineReady p)
    (ha : s.agenda = .engine :: .shifter :: rest)
    (hact : actOf i ((s.setAgenda (.shifter :: rest)).setAsleep false) = .ok t)
    (harm : ((s.setAgenda (.shifter :: rest)).setAsleep false).Arms t op q d x dir es) :
    ∃ u, Progress s u 2 1 (es ++ [op.event s.nextDraw]) ∧ u.Acting q (op.buscondAfter .active) d x dir ∧
      u.sr = some s.nextDraw ∧ u.hmem = t.hmem ∧ u.descs = t.descs := by
  obtain ⟨u, hprog, hacting, hsr, hm⟩ := Progress.round hi hr ha hact harm
  cases hprog.run.symm.trans (run_round hi hr ha hact harm.shift)
  exact ⟨_, hprog, hacting, hsr, hm, completeShift_descs _ op⟩

/-! ### The acts of the transaction -/

theorem actStart_arms_address (hen : s.sigEn = true) (hs : s.shift = none)
    (hbus : s.buscond = .idle ∨ s.buscond = .restartReady) (hl : s.live = some d) (hk : (s.desc d).kind = some k)
    (hdir : dirOf k = some dir) (haddr : (s.desc d).addr = some a) (hbit : addrDirBit a = dir.bit) :
    ∃ t, actStart s = .ok t ∧ t.hmem = s.hmem ∧ t.descs = s.descs ∧
      s.Arms t (.tx8 (wireByte s.cfg a)) .addrAckPrep d (s.desc d) dir
        [if s.buscond = .idle then .start else .rstart] := by
  have hact := actStart_eq hl hk hdir haddr hbit hbus hs
  exact ⟨_, hact, rfl, rfl, rfl, rfl, hen, rfl, hl, rfl, rfl, rfl, rfl⟩

theorem actAddrAckPrep_arms (h : s.Acting .addrAckPrep .active d x dir) :
    ∃ t, actAddrAckPrep s = .ok t ∧ t.hmem = s.hmem ∧ t.descs = s.descs ∧ s.Arms t .rx1 .addrAckCheck d x dir [] := by
  obtain ⟨⟨-, hen, -⟩, hs, hbus, hl, hx, hg⟩ := h
  exact ⟨_, actAddrAckPrep_eq hs, rfl, rfl, rfl, rfl, hen, hbus, hl, hx, hg, (List.append_nil _).symm, rfl⟩

/-- R129, R130: beside the stop marker and its state, the failure writes `ERR` and `NACKF` only. -/
theorem actAddrAckCheck_fails (h : s.Acting .addrAckCheck .active d x dir) (hk : x.kind = some k)
    (hdir : dirOf k = some dir) (hsr : s.sr = some b) (hnack : b.getLsbD 0 = true) :
    ∃ t, actAddrAckCheck s = .ok t ∧ t.shift = some (.prep true) ∧ t.pstate = .stop ∧ t.sigEn = true ∧
      t.trace = s.trace ∧ t.err = errNackAddr ∧ t.busy = s.busy ∧ t.descs = s.descs ∧ t.hmem = s.hmem := by
  obtain ⟨⟨-, hen, -⟩, hs, -, hl, rfl, -⟩ := h
  exact ⟨_, (actAddrAckCheck_nack hsr hnack).trans (nackFail_eq _ hl hk hdir hs), rfl, rfl, hen, rfl, rfl, rfl, rfl,
    rfl⟩

/-! ### The turns of the transaction -/

/-- The start condition, the address byte and the slave's answer to it (R127, R128). -/
theorem address_answered_turns (hr : s.EngineReady .start) (hs : s.shift = none)
    (hbus : s.buscond = .idle ∨ s.buscond = .restartReady) (hl : s.live = some d) (hk : (s.desc d).kind = some k)
    (hdir : dirOf k = some dir) (haddr : (s.desc d).addr = some a) (hbit : addrDirBit a = dir.bit)
    (hdraw : s.draws = v :: b :: more) (ha : s.agenda = roundTurns 2 ++ rest) :
    ∃ u, Progress s u 4 2
        [if s.buscond = .idle then .start else .rstart, .tx (wireByte s.cfg a), .ackIn (b.getLsbD 0)] ∧
      u.Acting .addrAckCheck .active d (s.desc d) dir ∧ u.sr = some b ∧ u.hmem = s.hmem ∧ u.descs = s.descs := by
  have hen := hr.2.1
  obtain ⟨t, hstart, hm, hx, harm⟩ := actStart_arms_address
    (s := (s.setAgenda (.shifter :: roundTurns 1 ++ rest)).setAsleep false) hen hs hbus hl hk hdir haddr hbit
  obtain ⟨u, hprog, hacting, -, hum, hux⟩ := Progress.round_descs (i := .stepStart) rfl hr ha hstart harm
  obtain ⟨t', hack, hm', hx', harm'⟩ := actAddrAckPrep_arms (hacting.onTurn (.shifter :: rest))
  obtain ⟨w, hprog', hacting', hsr, hwm, hwx⟩ := Progress.round_descs (i := .stepAddrAckPrep) rfl hacting.ready
    (by rw [hprog.agenda, ha]; rfl) hack harm'
  have hanswer : u.nextDraw = b := nextDraw_of_draws (by rw [hprog.draws, hdraw]; rfl)
  rw [hanswer] at hprog' hsr
  exact ⟨w, hprog.trans hprog', hacting', hsr, hwm.trans (hm'.trans (hum.trans hm)),
    hwx.trans (hx'.trans (hux.trans hx))⟩

/-- The acknowledgement failure, its stop marker, and the stop-yield (R129, R130, R139, R141). -/
theorem nack_stop_turns (h : s.Acting .addrAckCheck .active d x dir) (hk : x.kind = some k)
    (hdir : dirOf k = some dir) (hsr : s.sr = some b) (hnack : b.getLsbD 0 = true)
    (ha : s.agenda = .engine :: .shifter :: .engine :: rest) :
    ∃ t : State, Host.Core.run core 3 s = .next t ∧ t.trace = s.trace ++ [BusEvent.prepStop, BusEvent.stop] ∧
      t.err = errNackAddr ∧ t.descs = s.descs ∧ t.hmem = s.hmem ∧ t.StopYielded ∧ t.busy = s.busy ∧ t.faults = [] ∧
      t.agenda = rest := by
  obtain ⟨t, hact, hop, hp, hen, htr, herr, hbusy, hx, hm⟩ :=
    actAddrAckCheck_fails (h.onTurn (.shifter :: .engine :: rest)) hk hdir hsr hnack
  have hrun := run_round (i := .stepAddrAckCheck) rfl h.ready ha hact hop
  have hfail : t.Running := (act_end (i := .stepAddrAckCheck) rfl hact).carries.running h.ready.1
  generalize hu : (t.setAgenda (.engine :: rest)).completeShift (.prep true) = u at hrun
  have hready : u.EngineReady .stop :=
    ⟨by simpa [State.Running, ← hu] using hfail, by simp [← hu, hen], by simp [← hu], by simp [← hu, hp]⟩
  obtain ⟨⟨hclean, -⟩, -, hpend, -⟩ := id hready
  have hag : u.agenda = .engine :: rest := by simp [← hu]
  have hbus : u.buscond = .stopReady := by simp [← hu, ShiftOp.buscondAfter]
  have hyield := actStop_of_stopReady (s := (u.setAgenda rest).setAsleep false) hbus
  have hstop := step_of_act (i := .stepStop) rfl hready hag hyield
  have hend := (run_add 1 hrun).trans (run_succ hstop rfl)
  refine ⟨_, hend, ?_, ?_, ?_, ?_, ⟨rfl, rfl, hpend, ?_, rfl, rfl⟩, ?_, hclean, rfl⟩
  all_goals simp [← hu, htr, herr, hx, hm, hbusy, ShiftOp.event]

end Rounds

/-- Settles O58: START, the acknowledgement bit, the failure and its true stop. -/
theorem addressNackTransaction : Obligations.AddressNackTransaction := by
  intro s d k dir a x y more rest hr hs hbus hl hk hdir ha hbit hdraw hnack hag
  obtain ⟨u, hprog, hacting, hsr, hm, hx⟩ := address_answered_turns
    (rest := .engine :: .shifter :: .engine :: rest) hr hs hbus hl hk hdir ha (hbit.trans (bit_eq_decide dir).symm)
    hdraw hag
  obtain ⟨t, hrun, htr, herr, htx, htm, hyield, hbusy, hend⟩ := nack_stop_turns hacting hk hdir hsr hnack
    (hprog.agenda_of_append (taken := roundTurns 2) hag rfl)
  refine ⟨t, (run_add 3 hprog.run).trans hrun, ?_, herr, htx.trans hx, htm.trans hm, hyield,
    hbusy.trans hprog.busy, hend⟩
  rw [htr, hprog.trace, hnack, wireByte_eq_ite, List.append_assoc]
  rfl

end Sys2Proof.Machine
end

section
/-! PROOF. Settles O32 to O34 and O37: the transaction interface, and the ports to `HMEM`. -/

namespace Sys2Proof.Machine

section Interface

variable {s t : State} {i : Instr} {d : DescRef} {a : Half} {v : Byte} {f : ModelFault} {r : Except ModelFault State}

/-! ### A foreground operation by its result -/

theorem foregroundStep_of_ok (hr : s.ForegroundReady) (h : r = .ok t) : foregroundStep i s r = .next t :=
  h ▸ foregroundStep_ok hr

theorem foregroundStep_of_error (hr : s.ForegroundReady) (h : r = .error f) :
    foregroundStep i s r = .next { s with faults := [{ fault := f, agent := .foreground, op := encode i }] } :=
  h ▸ foregroundStep_error hr

/-! ### The results of the shared reads and writes -/

/-- R200: without a live descriptor there is none to read. -/
theorem liveRef_of_no_live (h : s.live = none) : s.liveRef = .error .noLiveDescriptor := by simp [State.liveRef, h]

/-- R64: the two accesses at an admitted address, and at another. -/
theorem memRead_of_admits (h : admits s.cfg a = true) : s.memRead a = .ok (Memory.read s.hmem a.toNat) := if_pos h

theorem memWrite_of_admits (h : admits s.cfg a = true) :
    s.memWrite a v = .ok (s.setHmem (Memory.write s.hmem a.toNat v)) := if_pos h

theorem memRead_of_not_admits (h : admits s.cfg a = false) : s.memRead a = .error (.bufferNotAdmitted a) := by
  simp [State.memRead, h]

theorem memWrite_of_not_admits (h : admits s.cfg a = false) : s.memWrite a v = .error (.bufferNotAdmitted a) := by
  simp [State.memWrite, h]

/-! ### The fields of the status word (R87) -/

theorem statusErr_status (s : State) : statusErr s.status = s.err :=
  (extract_append_low _ s.err 0 4 (by decide)).trans (extract_self s.err)

theorem status_event (s : State) : s.status.getLsbD 4 = s.event := by
  rw [State.status, BitVec.getLsbD_append, BitVec.getLsbD_append]
  simp

theorem status_busy (s : State) : s.status.getLsbD 5 = s.busy := by
  rw [State.status, BitVec.getLsbD_append, BitVec.getLsbD_append, BitVec.getLsbD_append]
  simp

theorem status_reserved (s : State) : s.status.extractLsb' 6 2 = 0#2 := by
  rw [State.status, extract_append_high _ s.err 6 2 (by decide), extract_append_high _ _ 2 2 (by decide),
    extract_append_high _ _ 1 2 (by decide), extract_self]

end Interface

/-! ### The obligations -/

/-- Settles O32: NULL, then a descriptor by who owns the live one (R151). -/
theorem startRecordsTheLiveDescriptor : Obligations.StartRecordsTheLiveDescriptor := by
  intro s hr
  exact ⟨foregroundStep_ok hr, fun d hen => foregroundStep_of_ok hr (by rw [hen]; rfl),
    fun d hen => foregroundStep_of_error hr (if_pos hen)⟩

/-- Settles O33: both operations start by reading the live descriptor. -/
theorem resumeAndForceStopEnableSignalling : Obligations.ResumeAndForceStopEnableSignalling := by
  intro s hr
  refine ⟨fun hl => ?_, fun d hl => ?_⟩
  · have hread := liveRef_of_no_live hl
    exact ⟨foregroundStep_of_error hr (by rw [hread]; rfl), foregroundStep_of_error hr (by rw [hread]; rfl)⟩
  · have hread := liveRef_of_live hl
    exact ⟨foregroundStep_of_ok hr (by rw [hread]; rfl), foregroundStep_of_ok hr (by rw [hread]; rfl)⟩

/-- Settles O34: masking `STATUS` leaves `ERR`. -/
theorem getErrorMasksTheStatusWord : Obligations.GetErrorMasksTheStatusWord := by
  intro s hr
  have herr := statusErr_status s
  exact ⟨foregroundStep_of_ok hr (by rw [herr]; rfl), herr, status_event s, status_busy s, status_reserved s⟩

/-- Settles O37: the accesses by `admits`, and the laws of a read after a write. -/
theorem memoryPortsReadAndWriteOneByte : Obligations.MemoryPortsReadAndWriteOneByte := by
  intro s a v hr hwf
  refine ⟨fun hadm => ⟨?_, Memory.write s.hmem a.toNat v, ?_, Memory.read_write_same hwf,
    fun x hx => Memory.read_write_ne s.hmem v hx⟩, fun hadm => ⟨?_, ?_⟩⟩
  · exact foregroundStep_of_ok hr (by rw [memRead_of_admits hadm]; rfl)
  · exact foregroundStep_of_ok hr (memWrite_of_admits hadm)
  · exact foregroundStep_of_error hr (by rw [memRead_of_not_admits hadm]; rfl)
  · exact foregroundStep_of_error hr (memWrite_of_not_admits hadm)

end Sys2Proof.Machine
end

section
/-! PROOF. Settles O38 and O39: the busy flag and the event-pending flag. -/

namespace Sys2Proof.Machine

/-- The zero-extension of a flag to `RV`, by the flag's value (R166, R171). -/
theorem flagHalf_eq_ite (b : Bool) : flagHalf b = if b then 1 else 0 := by cases b <;> rfl

/-- A flag read answers in `RV` and leaves the flag (R166, R171). -/
theorem foregroundStep_readFlag {s : State} {i : Instr} (hr : s.ForegroundReady) (b : Bool) :
    foregroundStep i s (.ok (s.setRv (flagHalf b))) = .next { s with rv := some (if b then 1 else 0) } :=
  foregroundStep_of_ok hr (by rw [flagHalf_eq_ite]; rfl)

/-! ### The obligations -/

/-- Settles O38: a flag read and a flag write, and `acquire` by the flag it finds (R167). -/
theorem busyFlagOperations : Obligations.BusyFlagOperations := by
  intro s hr
  refine ⟨foregroundStep_readFlag hr s.busy, fun hfree => ?_, fun hbusy => ?_, foregroundStep_ok hr⟩
  · exact foregroundStep_of_ok hr (by rw [hfree]; rfl)
  · exact foregroundStep_of_error hr (if_pos hbusy)

/-- Settles O39: two flag writes, and a flag read that leaves the event pending (R171). -/
theorem eventFlagOperations : Obligations.EventFlagOperations := by
  intro s hr
  exact ⟨foregroundStep_ok hr, foregroundStep_ok hr, foregroundStep_readFlag hr s.event⟩

end Sys2Proof.Machine
end

section
/-! PROOF. Settles O40 and O41: the scheduler iteration, and the low-power wait with the stimulus that wakes it. -/

namespace Sys2Proof.Machine

section Dispatch

variable {s : State} {d : DescRef} {x : ContRef} {c : Half}

/-! ### A dispatch by the continuation it reads (R176) -/

theorem readCont_of_cont (hc : (s.desc d).cont = some x) : s.readCont d = .ok x := by simp [State.readCont, hc]

theorem schedDispatch_of_no_live (hl : s.live = none) : schedDispatch s = .error .noLiveDescriptor := by
  rw [schedDispatch, liveRef_of_no_live hl]
  rfl

theorem schedDispatch_unwritten (hl : s.live = some d) (hc : (s.desc d).cont = none) :
    schedDispatch s = .error (.unwrittenRead (.descField d .cont)) := by
  simp only [schedDispatch, liveRef_of_live hl, State.readCont, hc, readReg_none, ok_bind]
  rfl

/-- Conflict C10: the release writes the live descriptor, so the engine's ownership forbids it. -/
theorem schedDispatch_null_owned (hl : s.live = some d) (hc : (s.desc d).cont = some .null) (hen : s.sigEn = true) :
    schedDispatch s = .error (.ownershipViolation .schedIter) := by
  simp only [schedDispatch, liveRef_of_live hl, readCont_of_cont hc, ok_bind, if_pos hen]

theorem schedDispatch_null_free (hl : s.live = some d) (hc : (s.desc d).cont = some .null) (hen : s.sigEn = false) :
    schedDispatch s =
      .ok (((s.setEvent false).setBusy false).setDesc d { s.desc d with kind := some .idle }) := by
  simp only [schedDispatch, liveRef_of_live hl, readCont_of_cont hc, ok_bind, hen]
  rfl

/-- R177: another continuation is invoked with the live descriptor. -/
theorem schedDispatch_ref (hl : s.live = some d) (hc : (s.desc d).cont = some (.ref c)) :
    schedDispatch s = .ok ((s.setEvent false).setFgPos (.continuation c d)) := by
  simp only [schedDispatch, liveRef_of_live hl, readCont_of_cont hc, ok_bind]

/-! ### The operations by the flags they read -/

theorem exec_schedIter_without_event (hr : s.ForegroundReady) (he : s.event = false) :
    exec .schedIter s = .next s :=
  foregroundStep_of_ok hr (by rw [he]; rfl)

theorem exec_schedIter_with_event (he : s.event = true) :
    exec .schedIter s = foregroundStep .schedIter s (schedDispatch s) := by
  simp only [exec, execSchedIter, if_pos he]

theorem exec_extStimulus (hr : s.Running) :
    exec .extStimulus s = if s.asleep then .next (s.setAsleep false) else .fault .notAsleep := by
  simp only [exec, execExtStimulus, halted_of_running hr, complete]

end Dispatch

/-! ### The obligations -/

/-- Settles O40: the flag, then the live descriptor, its continuation, and who owns it. -/
theorem schedulerIterationDispatches : Obligations.SchedulerIterationDispatches := by
  intro s hr
  refine ⟨exec_schedIter_without_event hr, fun he hl => ?_, fun d he hl => ?_⟩
  · rw [exec_schedIter_with_event he]
    exact foregroundStep_of_error hr (schedDispatch_of_no_live hl)
  · rw [exec_schedIter_with_event he]
    exact ⟨fun hc => foregroundStep_of_error hr (schedDispatch_unwritten hl hc),
      fun hc hen => foregroundStep_of_error hr (schedDispatch_null_owned hl hc hen),
      fun hc hen => foregroundStep_of_ok hr (schedDispatch_null_free hl hc hen),
      fun c hc => foregroundStep_of_ok hr (schedDispatch_ref hl hc)⟩

/-- Settles O41: the wait by its idle check (R178), the stimulus by `ASLEEP` (R179). -/
theorem lowPowerWaitSleepsAndWakes : Obligations.LowPowerWaitSleepsAndWakes := by
  intro s
  refine ⟨fun hr hidle => ?_, fun hr hatomic he => ?_, fun hr ha => ?_, fun hr ha => ?_⟩
  · exact foregroundStep_of_ok hr (if_neg (by obtain h | h := hidle <;> simp [h]))
  · exact foregroundStep_of_ok hr (if_pos (by rw [hatomic, he]; rfl))
  · rw [exec_extStimulus hr, if_pos ha]
    rfl
  · rw [exec_extStimulus hr, ha]
    rfl

end Sys2Proof.Machine
end

section
/-! PROOF. Settles O44: a step that faults is discarded whole. -/

namespace Sys2Proof.Machine

/-- R196: a normal result carries over the records of the state before it, which holds none where the operation runs. -/
theorem StepEnd.faults_eq_nil {i : Instr} {s t : State} (h : StepEnd i s t) (hr : s.Running) : t.faults = [] :=
  (h.carries.running hr).1

/-- Settles O44: of the two ways an operation can end, only the discarded step leaves a record. -/
theorem faultingStepIsDiscardedWhole : Obligations.FaultingStepIsDiscardedWhole := by
  intro s t i h hf
  obtain ⟨hr, hdiscarded | hnormal⟩ := exec_next h
  · exact hdiscarded
  · exact absurd (hnormal.faults_eq_nil hr) hf

end Sys2Proof.Machine
end

section
/-! PROOF. Settles O10: the register values after reset, and why the engine and the shifter wait there. -/

namespace Sys2Proof.Machine

/-- R216: reset leaves no fault record and no refusal mark. -/
theorem resetWith_running (cfg : Config) (m : Memory) : (State.resetWith cfg m).Running := ⟨rfl, rfl⟩

/-- R32, R216: with `BUSY`, `EVENT` and `ERR` 0 after reset the status word is 0. -/
theorem resetWith_status (cfg : Config) (m : Memory) : (State.resetWith cfg m).status = 0x00 :=
  (by decide : 0#2 ++ BitVec.ofBool false ++ BitVec.ofBool false ++ 0#4 = 0x00#8)

/-- R126: with `SIG_EN = 0` after reset no engine step is enabled. -/
theorem exec_engine_resetWith (cfg : Config) (m : Memory) {i : Instr} (hi : i.stepState ≠ none) :
    exec i (State.resetWith cfg m) = .fault .engineNotEnabled :=
  exec_of_sigEn_false hi (resetWith_running cfg m) rfl

/-- R112: with no shift in flight after reset the shifter has no step. -/
theorem exec_shiftComplete_resetWith (cfg : Config) (m : Memory) :
    exec .shiftComplete (State.resetWith cfg m) = .fault .noShiftInFlight :=
  exec_shiftComplete_of_none (resetWith_running cfg m) rfl

/-- Settles O10: every register has its value by R216's definition, the descriptor fields slot by slot; `SIG_EN = 0`
keeps the engine from stepping and `SHIFT = none` the shifter. -/
theorem resetLeavesTheStatedValues : Obligations.ResetLeavesTheStatedValues := by
  refine ⟨?_, Config.default, [], rfl⟩
  rintro cfg m s rfl
  exact ⟨resetWith_desc cfg m, rfl, rfl, rfl, resetWith_status cfg m, rfl, rfl, rfl, rfl, rfl, rfl, rfl, rfl, rfl, rfl,
    rfl, rfl, rfl, rfl, rfl, rfl, fun _ => exec_engine_resetWith cfg m, exec_shiftComplete_resetWith cfg m⟩

end Sys2Proof.Machine
end
